-- ==== Sys2Proof/Word.lean ====
section
/-! DEFINITION. The word types of the 6502-ND and its console (spec 00_scope.md R7, R13): names only, no behaviour. -/

namespace Sys2Proof

/-- A byte: the width of `A`, `X`, `Y`, `S`, of every bus access and of every CPU memory cell (R7, R13). -/
abbrev Byte := BitVec 8

/-- An address on the 16-bit CPU bus (R7, R200). -/
abbrev Addr := BitVec 16

/-- An address on the 14-bit PPU bus (R7, R250). -/
abbrev PpuAddr := BitVec 14

end Sys2Proof
end

