-- ==== Sys2Proof/Syntax.lean ====
section
/-! DEFINITION. The instructions of the 6502-ND (spec 30_encoding.md R301, R312, R313): one constructor per row of
spec/opcode_table.json, so one per opcode byte. The constructor names the mnemonic and the addressing mode; its
arguments are the operand bytes in the order they lie in memory (`b1`, then `b2`; R301). A suffix of two hexadecimal
digits tells apart rows of one mnemonic and one mode (the unofficial `NOP`s and the second `SBC #`, R511 to R513,
R516). The 25 rows of the table's mnemonic `(undecodable)` differ only in their opcode byte and have one effect (R314,
R523): they are one constructor that carries the byte (assumption 3). -/

namespace Sys2Proof

inductive Instr where
  | undecodable (op : Byte)    -- the 25 bytes of R314 (R523)
  | brk    -- 0x00: BRK (R495)
  | oraIzx (b1 : Byte)    -- 0x01: ORA ($nn,X) (R424)
  | sloIzx (b1 : Byte)    -- 0x03: SLO ($nn,X), unofficial (R519)
  | nopZp04 (b1 : Byte)    -- 0x04: NOP $nn, unofficial (R513)
  | oraZp (b1 : Byte)    -- 0x05: ORA $nn (R424)
  | aslZp (b1 : Byte)    -- 0x06: ASL $nn (R451)
  | sloZp (b1 : Byte)    -- 0x07: SLO $nn, unofficial (R519)
  | php    -- 0x08: PHP (R482)
  | oraImm (b1 : Byte)    -- 0x09: ORA #$nn (R424)
  | aslAcc    -- 0x0A: ASL A (R451)
  | nopAbs0C (b1 b2 : Byte)    -- 0x0C: NOP $nnnn, unofficial (R513)
  | oraAbs (b1 b2 : Byte)    -- 0x0D: ORA $nnnn (R424)
  | aslAbs (b1 b2 : Byte)    -- 0x0E: ASL $nnnn (R451)
  | sloAbs (b1 b2 : Byte)    -- 0x0F: SLO $nnnn, unofficial (R519)
  | bpl (b1 : Byte)    -- 0x10: BPL label (R470)
  | oraIzy (b1 : Byte)    -- 0x11: ORA ($nn),Y (R424)
  | sloIzy (b1 : Byte)    -- 0x13: SLO ($nn),Y, unofficial (R519)
  | nopZpx14 (b1 : Byte)    -- 0x14: NOP $nn,X, unofficial (R513)
  | oraZpx (b1 : Byte)    -- 0x15: ORA $nn,X (R424)
  | aslZpx (b1 : Byte)    -- 0x16: ASL $nn,X (R451)
  | sloZpx (b1 : Byte)    -- 0x17: SLO $nn,X, unofficial (R519)
  | clc    -- 0x18: CLC (R485)
  | oraAby (b1 b2 : Byte)    -- 0x19: ORA $nnnn,Y (R424)
  | nop1A    -- 0x1A: NOP, unofficial (R511)
  | sloAby (b1 b2 : Byte)    -- 0x1B: SLO $nnnn,Y, unofficial (R519)
  | nopAbx1C (b1 b2 : Byte)    -- 0x1C: NOP $nnnn,X, unofficial (R513)
  | oraAbx (b1 b2 : Byte)    -- 0x1D: ORA $nnnn,X (R424)
  | aslAbx (b1 b2 : Byte)    -- 0x1E: ASL $nnnn,X (R451)
  | sloAbx (b1 b2 : Byte)    -- 0x1F: SLO $nnnn,X, unofficial (R519)
  | jsr (b1 b2 : Byte)    -- 0x20: JSR $nnnn (R462)
  | andIzx (b1 : Byte)    -- 0x21: AND ($nn,X) (R423)
  | rlaIzx (b1 : Byte)    -- 0x23: RLA ($nn,X), unofficial (R520)
  | bitZp (b1 : Byte)    -- 0x24: BIT $nn (R429)
  | andZp (b1 : Byte)    -- 0x25: AND $nn (R423)
  | rolZp (b1 : Byte)    -- 0x26: ROL $nn (R453)
  | rlaZp (b1 : Byte)    -- 0x27: RLA $nn, unofficial (R520)
  | plp    -- 0x28: PLP (R484)
  | andImm (b1 : Byte)    -- 0x29: AND #$nn (R423)
  | rolAcc    -- 0x2A: ROL A (R453)
  | bitAbs (b1 b2 : Byte)    -- 0x2C: BIT $nnnn (R429)
  | andAbs (b1 b2 : Byte)    -- 0x2D: AND $nnnn (R423)
  | rolAbs (b1 b2 : Byte)    -- 0x2E: ROL $nnnn (R453)
  | rlaAbs (b1 b2 : Byte)    -- 0x2F: RLA $nnnn, unofficial (R520)
  | bmi (b1 : Byte)    -- 0x30: BMI label (R469)
  | andIzy (b1 : Byte)    -- 0x31: AND ($nn),Y (R423)
  | rlaIzy (b1 : Byte)    -- 0x33: RLA ($nn),Y, unofficial (R520)
  | nopZpx34 (b1 : Byte)    -- 0x34: NOP $nn,X, unofficial (R513)
  | andZpx (b1 : Byte)    -- 0x35: AND $nn,X (R423)
  | rolZpx (b1 : Byte)    -- 0x36: ROL $nn,X (R453)
  | rlaZpx (b1 : Byte)    -- 0x37: RLA $nn,X, unofficial (R520)
  | sec    -- 0x38: SEC (R486)
  | andAby (b1 b2 : Byte)    -- 0x39: AND $nnnn,Y (R423)
  | nop3A    -- 0x3A: NOP, unofficial (R511)
  | rlaAby (b1 b2 : Byte)    -- 0x3B: RLA $nnnn,Y, unofficial (R520)
  | nopAbx3C (b1 b2 : Byte)    -- 0x3C: NOP $nnnn,X, unofficial (R513)
  | andAbx (b1 b2 : Byte)    -- 0x3D: AND $nnnn,X (R423)
  | rolAbx (b1 b2 : Byte)    -- 0x3E: ROL $nnnn,X (R453)
  | rlaAbx (b1 b2 : Byte)    -- 0x3F: RLA $nnnn,X, unofficial (R520)
  | rti    -- 0x40: RTI (R496)
  | eorIzx (b1 : Byte)    -- 0x41: EOR ($nn,X) (R425)
  | sreIzx (b1 : Byte)    -- 0x43: SRE ($nn,X), unofficial (R521)
  | nopZp44 (b1 : Byte)    -- 0x44: NOP $nn, unofficial (R513)
  | eorZp (b1 : Byte)    -- 0x45: EOR $nn (R425)
  | lsrZp (b1 : Byte)    -- 0x46: LSR $nn (R452)
  | sreZp (b1 : Byte)    -- 0x47: SRE $nn, unofficial (R521)
  | pha    -- 0x48: PHA (R481)
  | eorImm (b1 : Byte)    -- 0x49: EOR #$nn (R425)
  | lsrAcc    -- 0x4A: LSR A (R452)
  | jmpAbs (b1 b2 : Byte)    -- 0x4C: JMP $nnnn (R461)
  | eorAbs (b1 b2 : Byte)    -- 0x4D: EOR $nnnn (R425)
  | lsrAbs (b1 b2 : Byte)    -- 0x4E: LSR $nnnn (R452)
  | sreAbs (b1 b2 : Byte)    -- 0x4F: SRE $nnnn, unofficial (R521)
  | bvc (b1 : Byte)    -- 0x50: BVC label (R471)
  | eorIzy (b1 : Byte)    -- 0x51: EOR ($nn),Y (R425)
  | sreIzy (b1 : Byte)    -- 0x53: SRE ($nn),Y, unofficial (R521)
  | nopZpx54 (b1 : Byte)    -- 0x54: NOP $nn,X, unofficial (R513)
  | eorZpx (b1 : Byte)    -- 0x55: EOR $nn,X (R425)
  | lsrZpx (b1 : Byte)    -- 0x56: LSR $nn,X (R452)
  | sreZpx (b1 : Byte)    -- 0x57: SRE $nn,X, unofficial (R521)
  | cli    -- 0x58: CLI (R487)
  | eorAby (b1 b2 : Byte)    -- 0x59: EOR $nnnn,Y (R425)
  | nop5A    -- 0x5A: NOP, unofficial (R511)
  | sreAby (b1 b2 : Byte)    -- 0x5B: SRE $nnnn,Y, unofficial (R521)
  | nopAbx5C (b1 b2 : Byte)    -- 0x5C: NOP $nnnn,X, unofficial (R513)
  | eorAbx (b1 b2 : Byte)    -- 0x5D: EOR $nnnn,X (R425)
  | lsrAbx (b1 b2 : Byte)    -- 0x5E: LSR $nnnn,X (R452)
  | sreAbx (b1 b2 : Byte)    -- 0x5F: SRE $nnnn,X, unofficial (R521)
  | rts    -- 0x60: RTS (R463)
  | adcIzx (b1 : Byte)    -- 0x61: ADC ($nn,X) (R421)
  | rraIzx (b1 : Byte)    -- 0x63: RRA ($nn,X), unofficial (R522)
  | nopZp64 (b1 : Byte)    -- 0x64: NOP $nn, unofficial (R513)
  | adcZp (b1 : Byte)    -- 0x65: ADC $nn (R421)
  | rorZp (b1 : Byte)    -- 0x66: ROR $nn (R454)
  | rraZp (b1 : Byte)    -- 0x67: RRA $nn, unofficial (R522)
  | pla    -- 0x68: PLA (R483)
  | adcImm (b1 : Byte)    -- 0x69: ADC #$nn (R421)
  | rorAcc    -- 0x6A: ROR A (R454)
  | jmpInd (b1 b2 : Byte)    -- 0x6C: JMP ($nnnn) (R461)
  | adcAbs (b1 b2 : Byte)    -- 0x6D: ADC $nnnn (R421)
  | rorAbs (b1 b2 : Byte)    -- 0x6E: ROR $nnnn (R454)
  | rraAbs (b1 b2 : Byte)    -- 0x6F: RRA $nnnn, unofficial (R522)
  | bvs (b1 : Byte)    -- 0x70: BVS label (R472)
  | adcIzy (b1 : Byte)    -- 0x71: ADC ($nn),Y (R421)
  | rraIzy (b1 : Byte)    -- 0x73: RRA ($nn),Y, unofficial (R522)
  | nopZpx74 (b1 : Byte)    -- 0x74: NOP $nn,X, unofficial (R513)
  | adcZpx (b1 : Byte)    -- 0x75: ADC $nn,X (R421)
  | rorZpx (b1 : Byte)    -- 0x76: ROR $nn,X (R454)
  | rraZpx (b1 : Byte)    -- 0x77: RRA $nn,X, unofficial (R522)
  | sei    -- 0x78: SEI (R488)
  | adcAby (b1 b2 : Byte)    -- 0x79: ADC $nnnn,Y (R421)
  | nop7A    -- 0x7A: NOP, unofficial (R511)
  | rraAby (b1 b2 : Byte)    -- 0x7B: RRA $nnnn,Y, unofficial (R522)
  | nopAbx7C (b1 b2 : Byte)    -- 0x7C: NOP $nnnn,X, unofficial (R513)
  | adcAbx (b1 b2 : Byte)    -- 0x7D: ADC $nnnn,X (R421)
  | rorAbx (b1 b2 : Byte)    -- 0x7E: ROR $nnnn,X (R454)
  | rraAbx (b1 b2 : Byte)    -- 0x7F: RRA $nnnn,X, unofficial (R522)
  | nopImm80 (b1 : Byte)    -- 0x80: NOP #$nn, unofficial (R512)
  | staIzx (b1 : Byte)    -- 0x81: STA ($nn,X) (R404)
  | nopImm82 (b1 : Byte)    -- 0x82: NOP #$nn, unofficial (R512)
  | saxIzx (b1 : Byte)    -- 0x83: SAX ($nn,X), unofficial (R515)
  | styZp (b1 : Byte)    -- 0x84: STY $nn (R406)
  | staZp (b1 : Byte)    -- 0x85: STA $nn (R404)
  | stxZp (b1 : Byte)    -- 0x86: STX $nn (R405)
  | saxZp (b1 : Byte)    -- 0x87: SAX $nn, unofficial (R515)
  | dey    -- 0x88: DEY (R435)
  | nopImm89 (b1 : Byte)    -- 0x89: NOP #$nn, unofficial (R512)
  | txa    -- 0x8A: TXA (R409)
  | styAbs (b1 b2 : Byte)    -- 0x8C: STY $nnnn (R406)
  | staAbs (b1 b2 : Byte)    -- 0x8D: STA $nnnn (R404)
  | stxAbs (b1 b2 : Byte)    -- 0x8E: STX $nnnn (R405)
  | saxAbs (b1 b2 : Byte)    -- 0x8F: SAX $nnnn, unofficial (R515)
  | bcc (b1 : Byte)    -- 0x90: BCC label (R465)
  | staIzy (b1 : Byte)    -- 0x91: STA ($nn),Y (R404)
  | styZpx (b1 : Byte)    -- 0x94: STY $nn,X (R406)
  | staZpx (b1 : Byte)    -- 0x95: STA $nn,X (R404)
  | stxZpy (b1 : Byte)    -- 0x96: STX $nn,Y (R405)
  | saxZpy (b1 : Byte)    -- 0x97: SAX $nn,Y, unofficial (R515)
  | tya    -- 0x98: TYA (R410)
  | staAby (b1 b2 : Byte)    -- 0x99: STA $nnnn,Y (R404)
  | txs    -- 0x9A: TXS (R412)
  | staAbx (b1 b2 : Byte)    -- 0x9D: STA $nnnn,X (R404)
  | ldyImm (b1 : Byte)    -- 0xA0: LDY #$nn (R403)
  | ldaIzx (b1 : Byte)    -- 0xA1: LDA ($nn,X) (R401)
  | ldxImm (b1 : Byte)    -- 0xA2: LDX #$nn (R402)
  | laxIzx (b1 : Byte)    -- 0xA3: LAX ($nn,X), unofficial (R514)
  | ldyZp (b1 : Byte)    -- 0xA4: LDY $nn (R403)
  | ldaZp (b1 : Byte)    -- 0xA5: LDA $nn (R401)
  | ldxZp (b1 : Byte)    -- 0xA6: LDX $nn (R402)
  | laxZp (b1 : Byte)    -- 0xA7: LAX $nn, unofficial (R514)
  | tay    -- 0xA8: TAY (R408)
  | ldaImm (b1 : Byte)    -- 0xA9: LDA #$nn (R401)
  | tax    -- 0xAA: TAX (R407)
  | ldyAbs (b1 b2 : Byte)    -- 0xAC: LDY $nnnn (R403)
  | ldaAbs (b1 b2 : Byte)    -- 0xAD: LDA $nnnn (R401)
  | ldxAbs (b1 b2 : Byte)    -- 0xAE: LDX $nnnn (R402)
  | laxAbs (b1 b2 : Byte)    -- 0xAF: LAX $nnnn, unofficial (R514)
  | bcs (b1 : Byte)    -- 0xB0: BCS label (R466)
  | ldaIzy (b1 : Byte)    -- 0xB1: LDA ($nn),Y (R401)
  | laxIzy (b1 : Byte)    -- 0xB3: LAX ($nn),Y, unofficial (R514)
  | ldyZpx (b1 : Byte)    -- 0xB4: LDY $nn,X (R403)
  | ldaZpx (b1 : Byte)    -- 0xB5: LDA $nn,X (R401)
  | ldxZpy (b1 : Byte)    -- 0xB6: LDX $nn,Y (R402)
  | laxZpy (b1 : Byte)    -- 0xB7: LAX $nn,Y, unofficial (R514)
  | clv    -- 0xB8: CLV (R491)
  | ldaAby (b1 b2 : Byte)    -- 0xB9: LDA $nnnn,Y (R401)
  | tsx    -- 0xBA: TSX (R411)
  | ldyAbx (b1 b2 : Byte)    -- 0xBC: LDY $nnnn,X (R403)
  | ldaAbx (b1 b2 : Byte)    -- 0xBD: LDA $nnnn,X (R401)
  | ldxAby (b1 b2 : Byte)    -- 0xBE: LDX $nnnn,Y (R402)
  | laxAby (b1 b2 : Byte)    -- 0xBF: LAX $nnnn,Y, unofficial (R514)
  | cpyImm (b1 : Byte)    -- 0xC0: CPY #$nn (R428)
  | cmpIzx (b1 : Byte)    -- 0xC1: CMP ($nn,X) (R426)
  | nopImmC2 (b1 : Byte)    -- 0xC2: NOP #$nn, unofficial (R512)
  | dcpIzx (b1 : Byte)    -- 0xC3: DCP ($nn,X), unofficial (R517)
  | cpyZp (b1 : Byte)    -- 0xC4: CPY $nn (R428)
  | cmpZp (b1 : Byte)    -- 0xC5: CMP $nn (R426)
  | decZp (b1 : Byte)    -- 0xC6: DEC $nn (R431)
  | dcpZp (b1 : Byte)    -- 0xC7: DCP $nn, unofficial (R517)
  | iny    -- 0xC8: INY (R433)
  | cmpImm (b1 : Byte)    -- 0xC9: CMP #$nn (R426)
  | dex    -- 0xCA: DEX (R434)
  | cpyAbs (b1 b2 : Byte)    -- 0xCC: CPY $nnnn (R428)
  | cmpAbs (b1 b2 : Byte)    -- 0xCD: CMP $nnnn (R426)
  | decAbs (b1 b2 : Byte)    -- 0xCE: DEC $nnnn (R431)
  | dcpAbs (b1 b2 : Byte)    -- 0xCF: DCP $nnnn, unofficial (R517)
  | bne (b1 : Byte)    -- 0xD0: BNE label (R468)
  | cmpIzy (b1 : Byte)    -- 0xD1: CMP ($nn),Y (R426)
  | dcpIzy (b1 : Byte)    -- 0xD3: DCP ($nn),Y, unofficial (R517)
  | nopZpxD4 (b1 : Byte)    -- 0xD4: NOP $nn,X, unofficial (R513)
  | cmpZpx (b1 : Byte)    -- 0xD5: CMP $nn,X (R426)
  | decZpx (b1 : Byte)    -- 0xD6: DEC $nn,X (R431)
  | dcpZpx (b1 : Byte)    -- 0xD7: DCP $nn,X, unofficial (R517)
  | cld    -- 0xD8: CLD (R489)
  | cmpAby (b1 b2 : Byte)    -- 0xD9: CMP $nnnn,Y (R426)
  | nopDA    -- 0xDA: NOP, unofficial (R511)
  | dcpAby (b1 b2 : Byte)    -- 0xDB: DCP $nnnn,Y, unofficial (R517)
  | nopAbxDC (b1 b2 : Byte)    -- 0xDC: NOP $nnnn,X, unofficial (R513)
  | cmpAbx (b1 b2 : Byte)    -- 0xDD: CMP $nnnn,X (R426)
  | decAbx (b1 b2 : Byte)    -- 0xDE: DEC $nnnn,X (R431)
  | dcpAbx (b1 b2 : Byte)    -- 0xDF: DCP $nnnn,X, unofficial (R517)
  | cpxImm (b1 : Byte)    -- 0xE0: CPX #$nn (R427)
  | sbcIzx (b1 : Byte)    -- 0xE1: SBC ($nn,X) (R422)
  | nopImmE2 (b1 : Byte)    -- 0xE2: NOP #$nn, unofficial (R512)
  | iscIzx (b1 : Byte)    -- 0xE3: ISC ($nn,X), unofficial (R518)
  | cpxZp (b1 : Byte)    -- 0xE4: CPX $nn (R427)
  | sbcZp (b1 : Byte)    -- 0xE5: SBC $nn (R422)
  | incZp (b1 : Byte)    -- 0xE6: INC $nn (R430)
  | iscZp (b1 : Byte)    -- 0xE7: ISC $nn, unofficial (R518)
  | inx    -- 0xE8: INX (R432)
  | sbcImm (b1 : Byte)    -- 0xE9: SBC #$nn (R422)
  | nop    -- 0xEA: NOP (R492)
  | sbcImmEB (b1 : Byte)    -- 0xEB: SBC #$nn, unofficial (R516)
  | cpxAbs (b1 b2 : Byte)    -- 0xEC: CPX $nnnn (R427)
  | sbcAbs (b1 b2 : Byte)    -- 0xED: SBC $nnnn (R422)
  | incAbs (b1 b2 : Byte)    -- 0xEE: INC $nnnn (R430)
  | iscAbs (b1 b2 : Byte)    -- 0xEF: ISC $nnnn, unofficial (R518)
  | beq (b1 : Byte)    -- 0xF0: BEQ label (R467)
  | sbcIzy (b1 : Byte)    -- 0xF1: SBC ($nn),Y (R422)
  | iscIzy (b1 : Byte)    -- 0xF3: ISC ($nn),Y, unofficial (R518)
  | nopZpxF4 (b1 : Byte)    -- 0xF4: NOP $nn,X, unofficial (R513)
  | sbcZpx (b1 : Byte)    -- 0xF5: SBC $nn,X (R422)
  | incZpx (b1 : Byte)    -- 0xF6: INC $nn,X (R430)
  | iscZpx (b1 : Byte)    -- 0xF7: ISC $nn,X, unofficial (R518)
  | sed    -- 0xF8: SED (R490)
  | sbcAby (b1 b2 : Byte)    -- 0xF9: SBC $nnnn,Y (R422)
  | nopFA    -- 0xFA: NOP, unofficial (R511)
  | iscAby (b1 b2 : Byte)    -- 0xFB: ISC $nnnn,Y, unofficial (R518)
  | nopAbxFC (b1 b2 : Byte)    -- 0xFC: NOP $nnnn,X, unofficial (R513)
  | sbcAbx (b1 b2 : Byte)    -- 0xFD: SBC $nnnn,X (R422)
  | incAbx (b1 b2 : Byte)    -- 0xFE: INC $nnnn,X (R430)
  | iscAbx (b1 b2 : Byte)    -- 0xFF: ISC $nnnn,X, unofficial (R518)
deriving DecidableEq, Repr

end Sys2Proof
end

