-- ==== Sys2Proof/WellFormed.lean ====
section
/-! DEFINITION. Which instruction terms are instructions of the hardware (spec 30_encoding.md R300, R312, R314). Operand
bytes have no illegal value (R300) and their width is in their type; ONE check is left, on the constructor that carries
an opcode byte of its own. -/

namespace Sys2Proof

/-- R314: the 25 byte values that have no entry in the closed table. -/
def undecodableBytes : List Byte :=
  [0x02, 0x0B, 0x12, 0x22, 0x2B, 0x32, 0x42, 0x4B, 0x52, 0x62, 0x6B, 0x72, 0x8B,
   0x92, 0x93, 0x9B, 0x9C, 0x9E, 0x9F, 0xAB, 0xB2, 0xBB, 0xCB, 0xD2, 0xF2]

/-- R312, R314: a term that stands for an undecodable byte carries one of the 25. Every other constructor is a row of
the closed table whatever its operand bytes. -/
def Instr.opcodeFits : Instr → Bool
  | .undecodable op => undecodableBytes.contains op
  | _ => true

/-- A well-formed instruction term: every check holds. -/
def Instr.wellFormed (i : Instr) : Bool := i.opcodeFits

end Sys2Proof
end

