-- ==== Sys2Proof/Decode.lean ====
section
/-! DEFINITION. The decoder and, after it, the encoder (spec 30_encoding.md R300, R301, R313). The decoder is the opcode
matrix of R313, one function per row of the matrix (the high nibble), one line per cell (the low nibble). -/

namespace Sys2Proof

/-- What an opcode byte alone determines (R300): a complete one-byte instruction, or an instruction that still wants
one or two operand bytes (R301). -/
inductive Format where
  | one (i : Instr)
  | two (f : Byte → Instr)
  | three (f : Byte → Byte → Instr)

/-- Row 0x of the opcode matrix (R313). -/
def matrixRow0 : Nat → Format
  | 0x0 => .one .brk
  | 0x1 => .two .oraIzx
  | 0x2 => .one (.undecodable 0x02)
  | 0x3 => .two .sloIzx
  | 0x4 => .two .nopZp04
  | 0x5 => .two .oraZp
  | 0x6 => .two .aslZp
  | 0x7 => .two .sloZp
  | 0x8 => .one .php
  | 0x9 => .two .oraImm
  | 0xA => .one .aslAcc
  | 0xB => .one (.undecodable 0x0B)
  | 0xC => .three .nopAbs0C
  | 0xD => .three .oraAbs
  | 0xE => .three .aslAbs
  | _ => .three .sloAbs

/-- Row 1x of the opcode matrix (R313). -/
def matrixRow1 : Nat → Format
  | 0x0 => .two .bpl
  | 0x1 => .two .oraIzy
  | 0x2 => .one (.undecodable 0x12)
  | 0x3 => .two .sloIzy
  | 0x4 => .two .nopZpx14
  | 0x5 => .two .oraZpx
  | 0x6 => .two .aslZpx
  | 0x7 => .two .sloZpx
  | 0x8 => .one .clc
  | 0x9 => .three .oraAby
  | 0xA => .one .nop1A
  | 0xB => .three .sloAby
  | 0xC => .three .nopAbx1C
  | 0xD => .three .oraAbx
  | 0xE => .three .aslAbx
  | _ => .three .sloAbx

/-- Row 2x of the opcode matrix (R313). -/
def matrixRow2 : Nat → Format
  | 0x0 => .three .jsr
  | 0x1 => .two .andIzx
  | 0x2 => .one (.undecodable 0x22)
  | 0x3 => .two .rlaIzx
  | 0x4 => .two .bitZp
  | 0x5 => .two .andZp
  | 0x6 => .two .rolZp
  | 0x7 => .two .rlaZp
  | 0x8 => .one .plp
  | 0x9 => .two .andImm
  | 0xA => .one .rolAcc
  | 0xB => .one (.undecodable 0x2B)
  | 0xC => .three .bitAbs
  | 0xD => .three .andAbs
  | 0xE => .three .rolAbs
  | _ => .three .rlaAbs

/-- Row 3x of the opcode matrix (R313). -/
def matrixRow3 : Nat → Format
  | 0x0 => .two .bmi
  | 0x1 => .two .andIzy
  | 0x2 => .one (.undecodable 0x32)
  | 0x3 => .two .rlaIzy
  | 0x4 => .two .nopZpx34
  | 0x5 => .two .andZpx
  | 0x6 => .two .rolZpx
  | 0x7 => .two .rlaZpx
  | 0x8 => .one .sec
  | 0x9 => .three .andAby
  | 0xA => .one .nop3A
  | 0xB => .three .rlaAby
  | 0xC => .three .nopAbx3C
  | 0xD => .three .andAbx
  | 0xE => .three .rolAbx
  | _ => .three .rlaAbx

/-- Row 4x of the opcode matrix (R313). -/
def matrixRow4 : Nat → Format
  | 0x0 => .one .rti
  | 0x1 => .two .eorIzx
  | 0x2 => .one (.undecodable 0x42)
  | 0x3 => .two .sreIzx
  | 0x4 => .two .nopZp44
  | 0x5 => .two .eorZp
  | 0x6 => .two .lsrZp
  | 0x7 => .two .sreZp
  | 0x8 => .one .pha
  | 0x9 => .two .eorImm
  | 0xA => .one .lsrAcc
  | 0xB => .one (.undecodable 0x4B)
  | 0xC => .three .jmpAbs
  | 0xD => .three .eorAbs
  | 0xE => .three .lsrAbs
  | _ => .three .sreAbs

/-- Row 5x of the opcode matrix (R313). -/
def matrixRow5 : Nat → Format
  | 0x0 => .two .bvc
  | 0x1 => .two .eorIzy
  | 0x2 => .one (.undecodable 0x52)
  | 0x3 => .two .sreIzy
  | 0x4 => .two .nopZpx54
  | 0x5 => .two .eorZpx
  | 0x6 => .two .lsrZpx
  | 0x7 => .two .sreZpx
  | 0x8 => .one .cli
  | 0x9 => .three .eorAby
  | 0xA => .one .nop5A
  | 0xB => .three .sreAby
  | 0xC => .three .nopAbx5C
  | 0xD => .three .eorAbx
  | 0xE => .three .lsrAbx
  | _ => .three .sreAbx

/-- Row 6x of the opcode matrix (R313). -/
def matrixRow6 : Nat → Format
  | 0x0 => .one .rts
  | 0x1 => .two .adcIzx
  | 0x2 => .one (.undecodable 0x62)
  | 0x3 => .two .rraIzx
  | 0x4 => .two .nopZp64
  | 0x5 => .two .adcZp
  | 0x6 => .two .rorZp
  | 0x7 => .two .rraZp
  | 0x8 => .one .pla
  | 0x9 => .two .adcImm
  | 0xA => .one .rorAcc
  | 0xB => .one (.undecodable 0x6B)
  | 0xC => .three .jmpInd
  | 0xD => .three .adcAbs
  | 0xE => .three .rorAbs
  | _ => .three .rraAbs

/-- Row 7x of the opcode matrix (R313). -/
def matrixRow7 : Nat → Format
  | 0x0 => .two .bvs
  | 0x1 => .two .adcIzy
  | 0x2 => .one (.undecodable 0x72)
  | 0x3 => .two .rraIzy
  | 0x4 => .two .nopZpx74
  | 0x5 => .two .adcZpx
  | 0x6 => .two .rorZpx
  | 0x7 => .two .rraZpx
  | 0x8 => .one .sei
  | 0x9 => .three .adcAby
  | 0xA => .one .nop7A
  | 0xB => .three .rraAby
  | 0xC => .three .nopAbx7C
  | 0xD => .three .adcAbx
  | 0xE => .three .rorAbx
  | _ => .three .rraAbx

/-- Row 8x of the opcode matrix (R313). -/
def matrixRow8 : Nat → Format
  | 0x0 => .two .nopImm80
  | 0x1 => .two .staIzx
  | 0x2 => .two .nopImm82
  | 0x3 => .two .saxIzx
  | 0x4 => .two .styZp
  | 0x5 => .two .staZp
  | 0x6 => .two .stxZp
  | 0x7 => .two .saxZp
  | 0x8 => .one .dey
  | 0x9 => .two .nopImm89
  | 0xA => .one .txa
  | 0xB => .one (.undecodable 0x8B)
  | 0xC => .three .styAbs
  | 0xD => .three .staAbs
  | 0xE => .three .stxAbs
  | _ => .three .saxAbs

/-- Row 9x of the opcode matrix (R313). -/
def matrixRow9 : Nat → Format
  | 0x0 => .two .bcc
  | 0x1 => .two .staIzy
  | 0x2 => .one (.undecodable 0x92)
  | 0x3 => .one (.undecodable 0x93)
  | 0x4 => .two .styZpx
  | 0x5 => .two .staZpx
  | 0x6 => .two .stxZpy
  | 0x7 => .two .saxZpy
  | 0x8 => .one .tya
  | 0x9 => .three .staAby
  | 0xA => .one .txs
  | 0xB => .one (.undecodable 0x9B)
  | 0xC => .one (.undecodable 0x9C)
  | 0xD => .three .staAbx
  | 0xE => .one (.undecodable 0x9E)
  | _ => .one (.undecodable 0x9F)

/-- Row Ax of the opcode matrix (R313). -/
def matrixRowA : Nat → Format
  | 0x0 => .two .ldyImm
  | 0x1 => .two .ldaIzx
  | 0x2 => .two .ldxImm
  | 0x3 => .two .laxIzx
  | 0x4 => .two .ldyZp
  | 0x5 => .two .ldaZp
  | 0x6 => .two .ldxZp
  | 0x7 => .two .laxZp
  | 0x8 => .one .tay
  | 0x9 => .two .ldaImm
  | 0xA => .one .tax
  | 0xB => .one (.undecodable 0xAB)
  | 0xC => .three .ldyAbs
  | 0xD => .three .ldaAbs
  | 0xE => .three .ldxAbs
  | _ => .three .laxAbs

/-- Row Bx of the opcode matrix (R313). -/
def matrixRowB : Nat → Format
  | 0x0 => .two .bcs
  | 0x1 => .two .ldaIzy
  | 0x2 => .one (.undecodable 0xB2)
  | 0x3 => .two .laxIzy
  | 0x4 => .two .ldyZpx
  | 0x5 => .two .ldaZpx
  | 0x6 => .two .ldxZpy
  | 0x7 => .two .laxZpy
  | 0x8 => .one .clv
  | 0x9 => .three .ldaAby
  | 0xA => .one .tsx
  | 0xB => .one (.undecodable 0xBB)
  | 0xC => .three .ldyAbx
  | 0xD => .three .ldaAbx
  | 0xE => .three .ldxAby
  | _ => .three .laxAby

/-- Row Cx of the opcode matrix (R313). -/
def matrixRowC : Nat → Format
  | 0x0 => .two .cpyImm
  | 0x1 => .two .cmpIzx
  | 0x2 => .two .nopImmC2
  | 0x3 => .two .dcpIzx
  | 0x4 => .two .cpyZp
  | 0x5 => .two .cmpZp
  | 0x6 => .two .decZp
  | 0x7 => .two .dcpZp
  | 0x8 => .one .iny
  | 0x9 => .two .cmpImm
  | 0xA => .one .dex
  | 0xB => .one (.undecodable 0xCB)
  | 0xC => .three .cpyAbs
  | 0xD => .three .cmpAbs
  | 0xE => .three .decAbs
  | _ => .three .dcpAbs

/-- Row Dx of the opcode matrix (R313). -/
def matrixRowD : Nat → Format
  | 0x0 => .two .bne
  | 0x1 => .two .cmpIzy
  | 0x2 => .one (.undecodable 0xD2)
  | 0x3 => .two .dcpIzy
  | 0x4 => .two .nopZpxD4
  | 0x5 => .two .cmpZpx
  | 0x6 => .two .decZpx
  | 0x7 => .two .dcpZpx
  | 0x8 => .one .cld
  | 0x9 => .three .cmpAby
  | 0xA => .one .nopDA
  | 0xB => .three .dcpAby
  | 0xC => .three .nopAbxDC
  | 0xD => .three .cmpAbx
  | 0xE => .three .decAbx
  | _ => .three .dcpAbx

/-- Row Ex of the opcode matrix (R313). -/
def matrixRowE : Nat → Format
  | 0x0 => .two .cpxImm
  | 0x1 => .two .sbcIzx
  | 0x2 => .two .nopImmE2
  | 0x3 => .two .iscIzx
  | 0x4 => .two .cpxZp
  | 0x5 => .two .sbcZp
  | 0x6 => .two .incZp
  | 0x7 => .two .iscZp
  | 0x8 => .one .inx
  | 0x9 => .two .sbcImm
  | 0xA => .one .nop
  | 0xB => .two .sbcImmEB
  | 0xC => .three .cpxAbs
  | 0xD => .three .sbcAbs
  | 0xE => .three .incAbs
  | _ => .three .iscAbs

/-- Row Fx of the opcode matrix (R313). -/
def matrixRowF : Nat → Format
  | 0x0 => .two .beq
  | 0x1 => .two .sbcIzy
  | 0x2 => .one (.undecodable 0xF2)
  | 0x3 => .two .iscIzy
  | 0x4 => .two .nopZpxF4
  | 0x5 => .two .sbcZpx
  | 0x6 => .two .incZpx
  | 0x7 => .two .iscZpx
  | 0x8 => .one .sed
  | 0x9 => .three .sbcAby
  | 0xA => .one .nopFA
  | 0xB => .three .iscAby
  | 0xC => .three .nopAbxFC
  | 0xD => .three .sbcAbx
  | 0xE => .three .incAbx
  | _ => .three .iscAbx

/-- The opcode matrix of R313: high nibble first, then low nibble. -/
def opcodeFormat (op : Byte) : Format :=
  match op.toNat / 16 with
  | 0x0 => matrixRow0 (op.toNat % 16)
  | 0x1 => matrixRow1 (op.toNat % 16)
  | 0x2 => matrixRow2 (op.toNat % 16)
  | 0x3 => matrixRow3 (op.toNat % 16)
  | 0x4 => matrixRow4 (op.toNat % 16)
  | 0x5 => matrixRow5 (op.toNat % 16)
  | 0x6 => matrixRow6 (op.toNat % 16)
  | 0x7 => matrixRow7 (op.toNat % 16)
  | 0x8 => matrixRow8 (op.toNat % 16)
  | 0x9 => matrixRow9 (op.toNat % 16)
  | 0xA => matrixRowA (op.toNat % 16)
  | 0xB => matrixRowB (op.toNat % 16)
  | 0xC => matrixRowC (op.toNat % 16)
  | 0xD => matrixRowD (op.toNat % 16)
  | 0xE => matrixRowE (op.toNat % 16)
  | _ => matrixRowF (op.toNat % 16)

/-- Why bytes do not decode. An undecodable opcode byte is no error here: it decodes to
`undecodable`, whose meaning latches the fault of R523. -/
inductive DecodeError where
  /-- There is no opcode byte. -/
  | noOpcode
  /-- The opcode byte `op` wants `wanted` operand bytes and fewer are there. -/
  | operandMissing (op : Byte) (wanted : Nat)
deriving DecidableEq, Repr

/-- Decode one instruction from the front of a list of bytes; the bytes after it come back with it (R300, R316). -/
def decode : List Byte → Except DecodeError (Instr × List Byte)
  | [] => .error .noOpcode
  | op :: rest =>
    match opcodeFormat op with
    | .one i => .ok (i, rest)
    | .two f =>
      match rest with
      | b1 :: rest => .ok (f b1, rest)
      | [] => .error (.operandMissing op 1)
    | .three f =>
      match rest with
      | b1 :: b2 :: rest => .ok (f b1 b2, rest)
      | _ => .error (.operandMissing op 2)

/-- The bytes of an instruction in memory order: the opcode byte of R313, then the operand bytes of R301, low byte
before high byte (R210). -/
def encode : Instr → List Byte
  | .undecodable op => [op]
  | .brk => [0x00]
  | .oraIzx b1 => [0x01, b1]
  | .sloIzx b1 => [0x03, b1]
  | .nopZp04 b1 => [0x04, b1]
  | .oraZp b1 => [0x05, b1]
  | .aslZp b1 => [0x06, b1]
  | .sloZp b1 => [0x07, b1]
  | .php => [0x08]
  | .oraImm b1 => [0x09, b1]
  | .aslAcc => [0x0A]
  | .nopAbs0C b1 b2 => [0x0C, b1, b2]
  | .oraAbs b1 b2 => [0x0D, b1, b2]
  | .aslAbs b1 b2 => [0x0E, b1, b2]
  | .sloAbs b1 b2 => [0x0F, b1, b2]
  | .bpl b1 => [0x10, b1]
  | .oraIzy b1 => [0x11, b1]
  | .sloIzy b1 => [0x13, b1]
  | .nopZpx14 b1 => [0x14, b1]
  | .oraZpx b1 => [0x15, b1]
  | .aslZpx b1 => [0x16, b1]
  | .sloZpx b1 => [0x17, b1]
  | .clc => [0x18]
  | .oraAby b1 b2 => [0x19, b1, b2]
  | .nop1A => [0x1A]
  | .sloAby b1 b2 => [0x1B, b1, b2]
  | .nopAbx1C b1 b2 => [0x1C, b1, b2]
  | .oraAbx b1 b2 => [0x1D, b1, b2]
  | .aslAbx b1 b2 => [0x1E, b1, b2]
  | .sloAbx b1 b2 => [0x1F, b1, b2]
  | .jsr b1 b2 => [0x20, b1, b2]
  | .andIzx b1 => [0x21, b1]
  | .rlaIzx b1 => [0x23, b1]
  | .bitZp b1 => [0x24, b1]
  | .andZp b1 => [0x25, b1]
  | .rolZp b1 => [0x26, b1]
  | .rlaZp b1 => [0x27, b1]
  | .plp => [0x28]
  | .andImm b1 => [0x29, b1]
  | .rolAcc => [0x2A]
  | .bitAbs b1 b2 => [0x2C, b1, b2]
  | .andAbs b1 b2 => [0x2D, b1, b2]
  | .rolAbs b1 b2 => [0x2E, b1, b2]
  | .rlaAbs b1 b2 => [0x2F, b1, b2]
  | .bmi b1 => [0x30, b1]
  | .andIzy b1 => [0x31, b1]
  | .rlaIzy b1 => [0x33, b1]
  | .nopZpx34 b1 => [0x34, b1]
  | .andZpx b1 => [0x35, b1]
  | .rolZpx b1 => [0x36, b1]
  | .rlaZpx b1 => [0x37, b1]
  | .sec => [0x38]
  | .andAby b1 b2 => [0x39, b1, b2]
  | .nop3A => [0x3A]
  | .rlaAby b1 b2 => [0x3B, b1, b2]
  | .nopAbx3C b1 b2 => [0x3C, b1, b2]
  | .andAbx b1 b2 => [0x3D, b1, b2]
  | .rolAbx b1 b2 => [0x3E, b1, b2]
  | .rlaAbx b1 b2 => [0x3F, b1, b2]
  | .rti => [0x40]
  | .eorIzx b1 => [0x41, b1]
  | .sreIzx b1 => [0x43, b1]
  | .nopZp44 b1 => [0x44, b1]
  | .eorZp b1 => [0x45, b1]
  | .lsrZp b1 => [0x46, b1]
  | .sreZp b1 => [0x47, b1]
  | .pha => [0x48]
  | .eorImm b1 => [0x49, b1]
  | .lsrAcc => [0x4A]
  | .jmpAbs b1 b2 => [0x4C, b1, b2]
  | .eorAbs b1 b2 => [0x4D, b1, b2]
  | .lsrAbs b1 b2 => [0x4E, b1, b2]
  | .sreAbs b1 b2 => [0x4F, b1, b2]
  | .bvc b1 => [0x50, b1]
  | .eorIzy b1 => [0x51, b1]
  | .sreIzy b1 => [0x53, b1]
  | .nopZpx54 b1 => [0x54, b1]
  | .eorZpx b1 => [0x55, b1]
  | .lsrZpx b1 => [0x56, b1]
  | .sreZpx b1 => [0x57, b1]
  | .cli => [0x58]
  | .eorAby b1 b2 => [0x59, b1, b2]
  | .nop5A => [0x5A]
  | .sreAby b1 b2 => [0x5B, b1, b2]
  | .nopAbx5C b1 b2 => [0x5C, b1, b2]
  | .eorAbx b1 b2 => [0x5D, b1, b2]
  | .lsrAbx b1 b2 => [0x5E, b1, b2]
  | .sreAbx b1 b2 => [0x5F, b1, b2]
  | .rts => [0x60]
  | .adcIzx b1 => [0x61, b1]
  | .rraIzx b1 => [0x63, b1]
  | .nopZp64 b1 => [0x64, b1]
  | .adcZp b1 => [0x65, b1]
  | .rorZp b1 => [0x66, b1]
  | .rraZp b1 => [0x67, b1]
  | .pla => [0x68]
  | .adcImm b1 => [0x69, b1]
  | .rorAcc => [0x6A]
  | .jmpInd b1 b2 => [0x6C, b1, b2]
  | .adcAbs b1 b2 => [0x6D, b1, b2]
  | .rorAbs b1 b2 => [0x6E, b1, b2]
  | .rraAbs b1 b2 => [0x6F, b1, b2]
  | .bvs b1 => [0x70, b1]
  | .adcIzy b1 => [0x71, b1]
  | .rraIzy b1 => [0x73, b1]
  | .nopZpx74 b1 => [0x74, b1]
  | .adcZpx b1 => [0x75, b1]
  | .rorZpx b1 => [0x76, b1]
  | .rraZpx b1 => [0x77, b1]
  | .sei => [0x78]
  | .adcAby b1 b2 => [0x79, b1, b2]
  | .nop7A => [0x7A]
  | .rraAby b1 b2 => [0x7B, b1, b2]
  | .nopAbx7C b1 b2 => [0x7C, b1, b2]
  | .adcAbx b1 b2 => [0x7D, b1, b2]
  | .rorAbx b1 b2 => [0x7E, b1, b2]
  | .rraAbx b1 b2 => [0x7F, b1, b2]
  | .nopImm80 b1 => [0x80, b1]
  | .staIzx b1 => [0x81, b1]
  | .nopImm82 b1 => [0x82, b1]
  | .saxIzx b1 => [0x83, b1]
  | .styZp b1 => [0x84, b1]
  | .staZp b1 => [0x85, b1]
  | .stxZp b1 => [0x86, b1]
  | .saxZp b1 => [0x87, b1]
  | .dey => [0x88]
  | .nopImm89 b1 => [0x89, b1]
  | .txa => [0x8A]
  | .styAbs b1 b2 => [0x8C, b1, b2]
  | .staAbs b1 b2 => [0x8D, b1, b2]
  | .stxAbs b1 b2 => [0x8E, b1, b2]
  | .saxAbs b1 b2 => [0x8F, b1, b2]
  | .bcc b1 => [0x90, b1]
  | .staIzy b1 => [0x91, b1]
  | .styZpx b1 => [0x94, b1]
  | .staZpx b1 => [0x95, b1]
  | .stxZpy b1 => [0x96, b1]
  | .saxZpy b1 => [0x97, b1]
  | .tya => [0x98]
  | .staAby b1 b2 => [0x99, b1, b2]
  | .txs => [0x9A]
  | .staAbx b1 b2 => [0x9D, b1, b2]
  | .ldyImm b1 => [0xA0, b1]
  | .ldaIzx b1 => [0xA1, b1]
  | .ldxImm b1 => [0xA2, b1]
  | .laxIzx b1 => [0xA3, b1]
  | .ldyZp b1 => [0xA4, b1]
  | .ldaZp b1 => [0xA5, b1]
  | .ldxZp b1 => [0xA6, b1]
  | .laxZp b1 => [0xA7, b1]
  | .tay => [0xA8]
  | .ldaImm b1 => [0xA9, b1]
  | .tax => [0xAA]
  | .ldyAbs b1 b2 => [0xAC, b1, b2]
  | .ldaAbs b1 b2 => [0xAD, b1, b2]
  | .ldxAbs b1 b2 => [0xAE, b1, b2]
  | .laxAbs b1 b2 => [0xAF, b1, b2]
  | .bcs b1 => [0xB0, b1]
  | .ldaIzy b1 => [0xB1, b1]
  | .laxIzy b1 => [0xB3, b1]
  | .ldyZpx b1 => [0xB4, b1]
  | .ldaZpx b1 => [0xB5, b1]
  | .ldxZpy b1 => [0xB6, b1]
  | .laxZpy b1 => [0xB7, b1]
  | .clv => [0xB8]
  | .ldaAby b1 b2 => [0xB9, b1, b2]
  | .tsx => [0xBA]
  | .ldyAbx b1 b2 => [0xBC, b1, b2]
  | .ldaAbx b1 b2 => [0xBD, b1, b2]
  | .ldxAby b1 b2 => [0xBE, b1, b2]
  | .laxAby b1 b2 => [0xBF, b1, b2]
  | .cpyImm b1 => [0xC0, b1]
  | .cmpIzx b1 => [0xC1, b1]
  | .nopImmC2 b1 => [0xC2, b1]
  | .dcpIzx b1 => [0xC3, b1]
  | .cpyZp b1 => [0xC4, b1]
  | .cmpZp b1 => [0xC5, b1]
  | .decZp b1 => [0xC6, b1]
  | .dcpZp b1 => [0xC7, b1]
  | .iny => [0xC8]
  | .cmpImm b1 => [0xC9, b1]
  | .dex => [0xCA]
  | .cpyAbs b1 b2 => [0xCC, b1, b2]
  | .cmpAbs b1 b2 => [0xCD, b1, b2]
  | .decAbs b1 b2 => [0xCE, b1, b2]
  | .dcpAbs b1 b2 => [0xCF, b1, b2]
  | .bne b1 => [0xD0, b1]
  | .cmpIzy b1 => [0xD1, b1]
  | .dcpIzy b1 => [0xD3, b1]
  | .nopZpxD4 b1 => [0xD4, b1]
  | .cmpZpx b1 => [0xD5, b1]
  | .decZpx b1 => [0xD6, b1]
  | .dcpZpx b1 => [0xD7, b1]
  | .cld => [0xD8]
  | .cmpAby b1 b2 => [0xD9, b1, b2]
  | .nopDA => [0xDA]
  | .dcpAby b1 b2 => [0xDB, b1, b2]
  | .nopAbxDC b1 b2 => [0xDC, b1, b2]
  | .cmpAbx b1 b2 => [0xDD, b1, b2]
  | .decAbx b1 b2 => [0xDE, b1, b2]
  | .dcpAbx b1 b2 => [0xDF, b1, b2]
  | .cpxImm b1 => [0xE0, b1]
  | .sbcIzx b1 => [0xE1, b1]
  | .nopImmE2 b1 => [0xE2, b1]
  | .iscIzx b1 => [0xE3, b1]
  | .cpxZp b1 => [0xE4, b1]
  | .sbcZp b1 => [0xE5, b1]
  | .incZp b1 => [0xE6, b1]
  | .iscZp b1 => [0xE7, b1]
  | .inx => [0xE8]
  | .sbcImm b1 => [0xE9, b1]
  | .nop => [0xEA]
  | .sbcImmEB b1 => [0xEB, b1]
  | .cpxAbs b1 b2 => [0xEC, b1, b2]
  | .sbcAbs b1 b2 => [0xED, b1, b2]
  | .incAbs b1 b2 => [0xEE, b1, b2]
  | .iscAbs b1 b2 => [0xEF, b1, b2]
  | .beq b1 => [0xF0, b1]
  | .sbcIzy b1 => [0xF1, b1]
  | .iscIzy b1 => [0xF3, b1]
  | .nopZpxF4 b1 => [0xF4, b1]
  | .sbcZpx b1 => [0xF5, b1]
  | .incZpx b1 => [0xF6, b1]
  | .iscZpx b1 => [0xF7, b1]
  | .sed => [0xF8]
  | .sbcAby b1 b2 => [0xF9, b1, b2]
  | .nopFA => [0xFA]
  | .iscAby b1 b2 => [0xFB, b1, b2]
  | .nopAbxFC b1 b2 => [0xFC, b1, b2]
  | .sbcAbx b1 b2 => [0xFD, b1, b2]
  | .incAbx b1 b2 => [0xFE, b1, b2]
  | .iscAbx b1 b2 => [0xFF, b1, b2]

/-- The length of an instruction in bytes (R301). -/
def Instr.length (i : Instr) : Nat := (encode i).length

/-- `n` bytes of the number `w`, the least significant first: the order in which the hardware stores them (R210). -/
def littleEndian (w : Nat) : Nat → List Byte
  | 0 => []
  | n + 1 => BitVec.ofNat 8 w :: littleEndian (w / 256) n

/-- The three bytes an instruction can have at most (R316), from the low `nbits` bits of `w`; every higher bit is 0. -/
def tableWordBytes (nbits w : Nat) : List Byte := littleEndian (w % 2 ^ nbits) 3

/-- The instruction the decoder reads from an instruction whose bits are `w`, numbered as spec/opcode_table.json
numbers them: the first byte is bits 7 to 0, the second bits 15 to 8. -/
def decodeTableWord (nbits w : Nat) : Option Instr :=
  match decode (tableWordBytes nbits w) with
  | .ok (i, _) => some i
  | .error _ => none

end Sys2Proof
end

