-- ==== Sys2Proof/Machine/Bits.lean ====
section
/-! DEFINITION. Bit fields, byte order and sign extension (spec 00_scope.md R13, R14; 20_memory.md R210). -/

namespace Sys2Proof.Machine

/-- `lo(w)`: bits 7 to 0 (R13). -/
def lo (w : Addr) : Byte := w.setWidth 8

/-- `hi(w)` and `page(w)`: bits 15 to 8 (R13). -/
def hi (w : Addr) : Byte := (w >>> 8).setWidth 8

/-- `h:l`: the word with high byte `h` and low byte `l` (R13). -/
def word (h l : Byte) : Addr := h ++ l

/-- `zext_16(b)` = `0x00:b` (R14). -/
def zext16 (b : Byte) : Addr := b.setWidth 16

/-- `sext_16(b)`: `0xFF:b` where bit 7 of `b` is 1, else `0x00:b` (R14). -/
def sext16 (b : Byte) : Addr := if b.getLsbD 7 then word 0xFF b else word 0x00 b

/-- A bit of a byte from a condition, at position `n` (R14 `b2i`). -/
def bitAt (c : Bool) (n : Nat) : Byte := if c then 1 <<< n else 0

/-- `reverse8` (R653): the 8 bits in the opposite order. -/
def reverse8 (b : Byte) : Byte := b.reverse

end Sys2Proof.Machine
end

