-- ==== Sys2Proof/Config.lean ====
section
/-! DEFINITION. What one machine fixes and no program changes: the open parameters of 00_scope.md R8, the cartridge
header's types (R9), and the free functions, without a body, of the parameters the spec leaves to somebody else (the
cartridge logic other than the fixed mapping, R240; the analog mixer, R760). -/

namespace Sys2Proof

/-- `STACK_ORDER` (R106, D4): which comes first in a push, the decrement or the write. -/
inductive StackOrder where
  | docPredecrement    -- push decrements then writes; pull reads then increments
  | mosPostdecrement   -- push writes then decrements; pull increments then reads
deriving DecidableEq, Repr

/-- `SPRITE_OVERLAP_ORDER` (R656, D67): which sprite wins where two opaque ones overlap. -/
inductive SpriteOverlapOrder where
  | oamIndex             -- the earliest in OAM
  | screenXThenOamIndex  -- the smallest screen column, ties to the earliest in OAM
deriving DecidableEq, Repr

/-- The wiring of the nametables (R9, R253). -/
inductive Mirroring where
  | horizontal
  | vertical
  | fourScreen
deriving DecidableEq, Repr, Inhabited

/-- The physical regions a program address of the cartridge can resolve to (R240). -/
inductive PrgRegion where
  | prgRom
  | prgRam
deriving DecidableEq, Repr

/-- The open parameters of R8 that are values (assumption 1): they stand in `State` and no step changes them, so a
statement about every state holds for every value of every one of them. -/
structure Params where
  /-- `STACK_ORDER` (D4). -/
  stackOrder : StackOrder
  /-- `NMI_SETS_I` (D9). -/
  nmiSetsI : Bool
  /-- `SKIP_NEEDS_RENDERING` (D35). -/
  skipNeedsRendering : Bool
  /-- `VBL_RACE_WINDOW` (D36): a set of positions (scanline, dot). -/
  vblRaceWindow : List (Nat × Nat)
  /-- `NMI_ON_ENABLE` (D37). -/
  nmiOnEnable : Bool
  /-- `SPRITE_OVERLAP_ORDER` (D67). -/
  spriteOverlapOrder : SpriteOverlapOrder
  /-- `DMC_STALL` (D55): cycles added to `cyc` by one sample fetch. -/
  dmcStall : Nat
deriving DecidableEq, Repr

/-- The defaults R8 recommends; the vectors of 95_test_vectors.md are computed at them. -/
def Params.default : Params where
  stackOrder := .docPredecrement
  nmiSetsI := false
  skipNeedsRendering := false
  vblRaceWindow := [(241, 1)]
  nmiOnEnable := false
  spriteOverlapOrder := .oamIndex
  dmcStall := 4

namespace Config

/-! The `Mapper` parameter of R240 for every variant but the fixed one (assumption 2). The variant's identifier comes
first; its state is a list of numbers, whatever registers it has. Nothing constrains these functions. -/

/-- R240 (1): the physical place of a program address, or `none` where the cartridge drives nothing. -/
opaque translatePrg (mapperId : Nat) (regs : List Nat) (a : Addr) : Option (PrgRegion × Nat)

/-- R240 (2): the physical offset into graphics memory of a PPU address below 0x2000. -/
opaque translateChr (mapperId : Nat) (regs : List Nat) (a : PpuAddr) : Nat

/-- R240 (3): the wiring, which a variant with a mirroring override may change at run time (R245). -/
opaque mirroringMode (mapperId : Nat) (regs : List Nat) (header : Mirroring) : Mirroring

/-- R240 (4): a CPU write to the cartridge window. -/
opaque onCpuWrite (mapperId : Nat) (regs : List Nat) (a : Addr) (v : Byte) : List Nat

/-- R240 (5): the scanline counter's tick. -/
opaque scanlineTick (mapperId : Nat) (regs : List Nat) : List Nat

/-- R240 (5): whether registers that have just been written or ticked ask for the scanline interrupt. -/
opaque mapperIrq (mapperId : Nat) (regs : List Nat) : Bool

/-- `mix` (R760, D56): five channel levels to one signed 16-bit amplitude. Nothing in the block reads it. -/
opaque mix (pulse1 pulse2 triangle noise dmc : Nat) : BitVec 16

end Config

end Sys2Proof
end

