-- ==== Sys2Proof/Machine/Memory.lean ====
section
/-! DEFINITION. Every memory of the machine: a list of (index, value) pairs in one canonical form, and what an index that
is not listed reads as (assumption 4). Work RAM, the nametables, OAM, cartridge memory and the others differ in their
region only. -/

namespace Sys2Proof.Machine

/-- A memory whose cells hold `w` bits: the cells that differ from what an unlisted one reads as, indices rising. -/
abbrev Cells (w : Nat) := List (Nat × BitVec w)

/-- A memory of bytes: a list of the host's cells (`Host.Cell`). -/
abbrev Memory := Cells 8

/-- The memories of the machine (R120, R133, R138, R150, R247). -/
inductive Region where
  | ram          -- work RAM, 2048 bytes (R120)
  | vram         -- nametable RAM, 2048 or 4096 bytes (R133)
  | palette      -- 32 cells of 6 bits (R254)
  | oam          -- 256 bytes (R650)
  | secOam       -- 32 bytes (R652)
  | framebuffer  -- 256 by 240 cells of 9 bits (R138)
  | prg          -- cartridge program ROM (R247)
  | prgRam       -- cartridge program RAM (R240)
  | chr          -- cartridge graphics ROM (R247)
  | chrRam       -- cartridge graphics RAM, 8192 bytes (R247)
deriving DecidableEq, Repr

/-- What a cell that is not listed reads as. `secOam` 0xFF, `framebuffer` and `chrRam` 0 are the spec's reset values
(R133, R138, R150, R155). `prg` 0xFF is the convention of the spec's programs (95_test_vectors.md part 3).
The others are the model's choice for the open parameters `init_ram`, `init_vram`, `init_oam`, `init_palette` (D62) and
for cartridge memory without contents (assumption 4). -/
def Region.unlisted : Region → Nat
  | .ram | .vram | .palette | .oam | .framebuffer | .prgRam | .chr | .chrRam => 0x00
  | .secOam | .prg => 0xFF

/-- The value of cell `k` of a memory of region `r`. -/
def Cells.read {w : Nat} (r : Region) : Cells w → Nat → BitVec w
  | [], _ => BitVec.ofNat w r.unlisted
  | (k, x) :: m, a => if a = k then x else Cells.read r m a

/-- Store `v` in cell `a`, keeping the canonical form: storing what an unlisted cell reads as removes the entry. -/
def Cells.write {w : Nat} (r : Region) : Cells w → Nat → BitVec w → Cells w
  | [], a, v => if v = BitVec.ofNat w r.unlisted then [] else [(a, v)]
  | (k, x) :: m, a, v =>
    if a < k then
      if v = BitVec.ofNat w r.unlisted then (k, x) :: m else (a, v) :: (k, x) :: m
    else if a = k then
      if v = BitVec.ofNat w r.unlisted then m else (k, v) :: m
    else (k, x) :: Cells.write r m a v

/-- The indices rise strictly. -/
def Cells.rising {w : Nat} : Cells w → Bool
  | [] => true
  | [_] => true
  | (k, _) :: (k', x') :: m => decide (k < k') && Cells.rising ((k', x') :: m)

/-- The canonical form of a memory of region `r`: indices strictly rising, and no entry equal to what an unlisted cell
reads as. -/
def Cells.wf {w : Nat} (r : Region) (m : Cells w) : Bool :=
  m.rising && m.all fun c => decide (c.2 ≠ BitVec.ofNat w r.unlisted)

/-- The canonical form of a memory of bytes. -/
def Memory.wf (r : Region) (m : Memory) : Bool := Cells.wf r m

end Sys2Proof.Machine
end

