-- ==== Sys2Proof/Machine/State.lean ====
section
/-! DEFINITION. The state of the machine (spec 10_state.md R100 to R155), all of it plain data, the two reasons it stops
(R802), and the state after reset (R155, R900). -/

namespace Sys2Proof.Machine

/-- The six flags of the status register (R109); the two other bits of its byte image are no state. -/
structure Flags where
  n : Bool
  v : Bool
  d : Bool
  i : Bool
  z : Bool
  c : Bool
deriving DecidableEq, Repr

/-- Why the machine stops: the reasons of R802. `step` answers one only where the machine can take no step. -/
inductive Fault where
  /-- Raised by the meaning of an undecodable opcode byte (R523): latched in `State.fault` with `pc0` and the byte, and
  answered by every later step. Safe: the spec gives the byte no effect and the machine stays stuck. -/
  | undecodableOpcode (pc0 : Addr) (byte : Byte)
  /-- Raised by an access to the cartridge whose translation lies outside the physical memory (R246), with the bus
  address of the access. Answered by the step in which it happens: the spec promises nothing of the rest of the state.
  Safe. It cannot happen with the fixed mapping. -/
  | mapperBounds (a : Addr)
deriving DecidableEq, Repr

/-- Why the machine refuses an instruction. -/
inductive Refusal where
  /-- Raised by `exec` for an instruction that has no meaning yet. Safe: nothing can be proved of it. No arm uses it. -/
  | notModelled (mnemonic : String)
deriving DecidableEq, Repr

/-- The cartridge of R9: its decoded header and its read-only memories. No step changes it. -/
structure Cartridge where
  prgBanks : Nat
  chrBanks : Nat
  mapperId : Nat
  mirroring : Mirroring
  battery : Bool
  /-- Size of the cartridge's program RAM in bytes: 0 with the fixed mapping (R247). -/
  prgRamSize : Nat
  prg : Memory
  chr : Memory
deriving DecidableEq, Repr

/-- The state `ms` of a Mapper variant other than the fixed one (R150, R240): its registers, whatever they are, and the
interrupt request it holds (R244). With the fixed mapping nothing reads it. -/
structure VariantState where
  regs : List Nat
  irqPending : Bool
deriving DecidableEq, Repr

/-- The Mapper's state (R150): that of the variant, and the cartridge's RAM. -/
structure MapperState where
  variant : VariantState
  prgRam : Memory
  chrRam : Memory
deriving DecidableEq, Repr

/-- One sprite unit of the line being drawn (R136). -/
structure SpriteUnit where
  lo : Byte
  hi : Byte
  attr : Byte
  x : Byte
deriving DecidableEq, Repr

/-- The state of the picture unit (R130 to R138). -/
structure Ppu where
  ctrl : Byte
  mask : Byte
  vblank : Bool
  sprite0Hit : Bool
  spriteOverflow : Bool
  oamAddr : Byte
  v : BitVec 15
  t : BitVec 15
  x : BitVec 3
  w : Bool
  readBuffer : Byte
  ioLatch : Byte
  vram : Memory
  palette : Cells 6
  oam : Memory
  secOam : Memory
  scanline : Nat
  dot : Nat
  frameParity : Bool
  ppuDots : Nat
  ntByte : Byte
  atBits : BitVec 2
  ptLo : Byte
  ptHi : Byte
  bgLo : BitVec 16
  bgHi : BitVec 16
  atLo : Byte
  atHi : Byte
  atLatchLo : Bool
  atLatchHi : Bool
  sprCount : Nat
  /-- The eight units, in unit order. -/
  sprites : List SpriteUnit
  sprZeroOnLine : Bool
  vblSuppress : Bool
  /-- Row `s`, column `px` is cell `256 * s + px`. -/
  framebuffer : Cells 9
deriving DecidableEq, Repr

/-- An envelope (R716) with the halt bit its channel's length counter shares (R711, R730). -/
structure Envelope where
  halt : Bool
  constVol : Bool
  vol : BitVec 4
  start : Bool
  div : BitVec 4
  decay : BitVec 4
deriving DecidableEq, Repr

/-- A pulse channel (R140). -/
structure Pulse where
  duty : BitVec 2
  env : Envelope
  sweepEn : Bool
  sweepPeriod : BitVec 3
  sweepNeg : Bool
  sweepShift : BitVec 3
  sweepReload : Bool
  sweepDiv : BitVec 3
  timerPeriod : BitVec 11
  timer : BitVec 11
  seq : BitVec 3
  length : Byte
  enabled : Bool
deriving DecidableEq, Repr

/-- The triangle channel (R141). -/
structure Triangle where
  control : Bool
  linearReloadVal : BitVec 7
  linear : BitVec 7
  linearReload : Bool
  timerPeriod : BitVec 11
  timer : BitVec 11
  seq : BitVec 5
  length : Byte
  enabled : Bool
deriving DecidableEq, Repr

/-- The noise channel (R142). -/
structure Noise where
  env : Envelope
  mode : Bool
  periodIdx : BitVec 4
  timer : BitVec 12
  lfsr : BitVec 15
  length : Byte
  enabled : Bool
deriving DecidableEq, Repr

/-- The delta-modulation channel (R143). -/
structure Dmc where
  irqEn : Bool
  loop : Bool
  rateIdx : BitVec 4
  timer : BitVec 9
  level : BitVec 7
  sampleAddr : Byte
  sampleLen : Byte
  curAddr : Addr
  bytesLeft : BitVec 12
  buffer : Byte
  bufferFull : Bool
  shift : Byte
  bitsLeft : BitVec 4
  silence : Bool
deriving DecidableEq, Repr

/-- The state of the audio unit (R140 to R146). -/
structure Apu where
  pulse1 : Pulse
  pulse2 : Pulse
  triangle : Triangle
  noise : Noise
  dmc : Dmc
  fsMode : Bool
  fsIrqInhibit : Bool
  fsCycle : Nat
  frameIrq : Bool
  dmcIrq : Bool
  apuCyc : Nat
deriving DecidableEq, Repr

/-- The five channel levels of one APU cycle (R760). -/
structure Sample where
  pulse1 : Nat
  pulse2 : Nat
  triangle : Nat
  noise : Nat
  dmc : Nat
deriving DecidableEq, Repr

/-- The state of the block (R100), the inputs and outputs of its step (R10, R830) and what it takes as given (R8, R9). -/
structure State where
  a : Byte
  x : Byte
  y : Byte
  /-- The stack pointer `S` (R104). -/
  sp : Byte
  pc : Addr
  p : Flags
  cyc : Nat
  fault : Option Fault
  ram : Memory
  db : Byte
  joyStrobe : Bool
  joyShift0 : Byte
  joyShift1 : Byte
  nmiPending : Bool
  ppu : Ppu
  apu : Apu
  mapper : MapperState
  /-- Input: the masks of controllers 1 and 2, which the host may change between steps (`machineStep`) and no step writes
  (R235). -/
  buttons0 : Byte
  buttons1 : Byte
  /-- Output of the step that led here: `FrameCompleted()` fired in it (R660, R830). -/
  frameCompleted : Bool
  /-- Output of the step that led here: the samples it emitted, oldest first (R760, R830). -/
  samples : List Sample
  /-- The cartridge (R9), read-only. -/
  cart : Cartridge
  /-- The open parameters (R8), read-only. -/
  params : Params
deriving DecidableEq, Repr

/-- A fixed-mapping cartridge of 32 KiB of program memory and graphics RAM with no program in it: every program byte is
0xFF (95_test_vectors.md part 3; assumption 5). -/
def Cartridge.blank : Cartridge where
  prgBanks := 2
  chrBanks := 0
  mapperId := 0
  mirroring := .horizontal
  battery := false
  prgRamSize := 0
  prg := []
  chr := []

/-- R155: all PPU registers, latches and pipeline state 0, position (0, 0), memories with nothing listed. -/
def Ppu.reset : Ppu where
  ctrl := 0
  mask := 0
  vblank := false
  sprite0Hit := false
  spriteOverflow := false
  oamAddr := 0
  v := 0
  t := 0
  x := 0
  w := false
  readBuffer := 0
  ioLatch := 0
  vram := []
  palette := []
  oam := []
  secOam := []
  scanline := 0
  dot := 0
  frameParity := false
  ppuDots := 0
  ntByte := 0
  atBits := 0
  ptLo := 0
  ptHi := 0
  bgLo := 0
  bgHi := 0
  atLo := 0
  atHi := 0
  atLatchLo := false
  atLatchHi := false
  sprCount := 0
  sprites := List.replicate 8 (SpriteUnit.mk 0 0 0 0)
  sprZeroOnLine := false
  vblSuppress := false
  framebuffer := []

def Envelope.reset : Envelope where
  halt := false
  constVol := false
  vol := 0
  start := false
  div := 0
  decay := 0

def Pulse.reset : Pulse where
  duty := 0
  env := .reset
  sweepEn := false
  sweepPeriod := 0
  sweepNeg := false
  sweepShift := 0
  sweepReload := false
  sweepDiv := 0
  timerPeriod := 0
  timer := 0
  seq := 0
  length := 0
  enabled := false

def Triangle.reset : Triangle where
  control := false
  linearReloadVal := 0
  linear := 0
  linearReload := false
  timerPeriod := 0
  timer := 0
  seq := 0
  length := 0
  enabled := false

/-- R142: `lfsr = 1`, the rest 0. -/
def Noise.reset : Noise where
  env := .reset
  mode := false
  periodIdx := 0
  timer := 0
  lfsr := 1
  length := 0
  enabled := false

/-- R143: `bits_left = 8`, `silence = 1`, the rest 0. -/
def Dmc.reset : Dmc where
  irqEn := false
  loop := false
  rateIdx := 0
  timer := 0
  level := 0
  sampleAddr := 0
  sampleLen := 0
  curAddr := 0
  bytesLeft := 0
  buffer := 0
  bufferFull := false
  shift := 0
  bitsLeft := 8
  silence := true

def Apu.reset : Apu where
  pulse1 := .reset
  pulse2 := .reset
  triangle := .reset
  noise := .reset
  dmc := .reset
  fsMode := false
  fsIrqInhibit := false
  fsCycle := 0
  frameIrq := false
  dmcIrq := false
  apuCyc := 0

/-- R155, R900: the state after power-on with the blank cartridge and the default parameters. Every program byte reads
0xFF, so the reset vector is 0xFFFF and the two vector reads leave `db` at 0xFF (`reset_eq_powerOn` in Laws says that
this is the reset sequence of R900). -/
def State.reset : State where
  a := 0
  x := 0
  y := 0
  sp := 0xFD
  pc := 0xFFFF
  p := { n := false, v := false, d := false, i := true, z := false, c := false }
  cyc := 0
  fault := none
  ram := []
  db := 0xFF
  joyStrobe := false
  joyShift0 := 0
  joyShift1 := 0
  nmiPending := false
  ppu := .reset
  apu := .reset
  mapper := { variant := { regs := [], irqPending := false }, prgRam := [], chrRam := [] }
  buttons0 := 0
  buttons1 := 0
  frameCompleted := false
  samples := []
  cart := .blank
  params := .default

end Sys2Proof.Machine
end

