-- ==== Sys2Proof/Machine/Apu.lean ====
section
/-! DEFINITION. The audio unit but for its bus reads (spec 47_apu_synthesizer.md R703 to R761): tables, registers,
channel generators, frame sequencer, output levels. -/

namespace Sys2Proof.Machine

/-! ## Tables -/

/-- `LENGTH` (R707). -/
def lengthTable : List Byte :=
  [10, 254, 20, 2, 40, 4, 80, 6, 160, 8, 60, 10, 14, 12, 26, 14] ++
  [12, 16, 24, 18, 48, 20, 96, 22, 192, 24, 72, 26, 16, 28, 32, 30]

/-- `DUTY` (R715): the eight steps of each duty, step 0 first. -/
def dutyTable : List (List Nat) :=
  [[0, 1, 0, 0, 0, 0, 0, 0], [0, 1, 1, 0, 0, 0, 0, 0], [0, 1, 1, 1, 1, 0, 0, 0], [1, 0, 0, 1, 1, 1, 1, 1]]

/-- `TRI` (R724). -/
def triangleTable : List Nat :=
  [15, 14, 13, 12, 11, 10, 9, 8, 7, 6, 5, 4, 3, 2, 1, 0] ++
  [0, 1, 2, 3, 4, 5, 6, 7, 8, 9, 10, 11, 12, 13, 14, 15]

/-- `NOISE_PERIOD` (R731), in CPU cycles. -/
def noisePeriodTable : List Nat :=
  [4, 8, 16, 32, 64, 96, 128, 160, 202, 254, 380, 508, 762, 1016, 2034, 4068]

/-- `DMC_RATE` (R744), in CPU cycles per bit. -/
def dmcRateTable : List Nat :=
  [428, 380, 340, 320, 286, 254, 226, 214, 190, 160, 142, 128, 106, 84, 72, 54]

/-- `LENGTH[b >> 3]`. -/
def lengthOf (b : Byte) : Byte := lengthTable.getD (b.toNat / 8) 0

/-! ## Envelope, length counter (R716, R718) -/

/-- `EnvelopeClock(c)` (R716). -/
def Envelope.clock (e : Envelope) : Envelope :=
  if e.start then { e with start := false, decay := 15, div := e.vol }
  else if e.div = 0 then
    if e.decay = 0 then { e with div := e.vol, decay := if e.halt then 15 else 0 }
    else { e with div := e.vol, decay := e.decay - 1 }
  else { e with div := e.div - 1 }

/-- `EnvelopeOut(c)` (R716). -/
def Envelope.out (e : Envelope) : Nat := if e.constVol then e.vol.toNat else e.decay.toNat

/-- `halt`, `const_vol`, `vol` from the channel's first register (R711, R730). -/
def Envelope.write (e : Envelope) (b : Byte) : Envelope :=
  { e with halt := b.getLsbD 5, constVol := b.getLsbD 4, vol := b.setWidth 4 }

/-- `LengthClock(c)` (R718). -/
def lengthClock (halt : Bool) (length : Byte) : Byte := if !halt && length ≠ 0 then length - 1 else length

/-! ## Pulse channels (R710 to R719) -/

/-- Register 0 of a pulse channel (R711). -/
def Pulse.write0 (p : Pulse) (b : Byte) : Pulse := { p with duty := b.extractLsb' 6 2, env := p.env.write b }

/-- Register 1 (R712). -/
def Pulse.write1 (p : Pulse) (b : Byte) : Pulse :=
  { p with
    sweepEn := b.getLsbD 7
    sweepPeriod := b.extractLsb' 4 3
    sweepNeg := b.getLsbD 3
    sweepShift := b.setWidth 3
    sweepReload := true }

/-- Register 2 (R713). -/
def Pulse.write2 (p : Pulse) (b : Byte) : Pulse :=
  { p with timerPeriod := (p.timerPeriod &&& 0x700) ||| b.setWidth 11 }

/-- Register 3 (R714): a disabled channel's length is not loaded. -/
def Pulse.write3 (p : Pulse) (b : Byte) : Pulse :=
  { p with
    timerPeriod := (p.timerPeriod &&& 0x0FF) ||| ((b &&& 7).setWidth 11 <<< 8)
    length := if p.enabled then lengthOf b else p.length
    seq := 0
    env := { p.env with start := true } }

/-- `PulseTimer(p)` (R715). -/
def Pulse.timerClock (p : Pulse) : Pulse :=
  if p.timer = 0 then { p with timer := p.timerPeriod, seq := p.seq + 1 } else { p with timer := p.timer - 1 }

/-- `SweepTarget(p)` (R717): `first` is `pulse1`, whose negation is the ones' complement. A difference below 0 is 0. -/
def Pulse.sweepTarget (first : Bool) (p : Pulse) : Nat :=
  let period := p.timerPeriod.toNat
  let change := period / 2 ^ p.sweepShift.toNat
  if p.sweepNeg then (if first then period - change - 1 else period - change) else period + change

/-- `SweepMute(p)` (R717). -/
def Pulse.sweepMute (first : Bool) (p : Pulse) : Bool :=
  decide (p.timerPeriod.toNat < 8) || decide (0x7FF < p.sweepTarget first)

/-- `SweepClock(p)` (R717). -/
def Pulse.sweepClock (first : Bool) (p : Pulse) : Pulse :=
  let p' : Pulse :=
    if decide (p.sweepDiv = 0) && p.sweepEn && decide (p.sweepShift ≠ 0) && !p.sweepMute first then
      { p with timerPeriod := BitVec.ofNat 11 (p.sweepTarget first) }
    else p
  if decide (p.sweepDiv = 0) || p.sweepReload then { p' with sweepDiv := p.sweepPeriod, sweepReload := false }
  else { p' with sweepDiv := p.sweepDiv - 1 }

/-- The length counter of a pulse channel (R718). -/
def Pulse.lengthClock (p : Pulse) : Pulse := { p with length := Machine.lengthClock p.env.halt p.length }

/-- `PulseOut(p)` (R719). -/
def Pulse.out (first : Bool) (p : Pulse) : Nat :=
  if decide (p.length = 0) || (dutyTable.getD p.duty.toNat []).getD p.seq.toNat 0 == 0 || p.sweepMute first then 0
  else p.env.out

/-- The channel's bit of the enable register (R705): a disabled channel's length is 0. -/
def Pulse.enable (p : Pulse) (on : Bool) : Pulse := { p with enabled := on, length := if on then p.length else 0 }

/-! ## Triangle channel (R720 to R724) -/

/-- 0x4008 (R720). -/
def Triangle.write0 (t : Triangle) (b : Byte) : Triangle :=
  { t with control := b.getLsbD 7, linearReloadVal := b.setWidth 7 }

/-- 0x400A (R720). -/
def Triangle.write2 (t : Triangle) (b : Byte) : Triangle :=
  { t with timerPeriod := (t.timerPeriod &&& 0x700) ||| b.setWidth 11 }

/-- 0x400B (R720). -/
def Triangle.write3 (t : Triangle) (b : Byte) : Triangle :=
  { t with
    timerPeriod := (t.timerPeriod &&& 0x0FF) ||| ((b &&& 7).setWidth 11 <<< 8)
    length := if t.enabled then lengthOf b else t.length
    linearReload := true }

/-- `TriangleTimer()` (R721). -/
def Triangle.timerClock (t : Triangle) : Triangle :=
  if t.timer = 0 then
    { t with
      timer := t.timerPeriod
      seq := if decide (t.length ≠ 0) && decide (t.linear ≠ 0) then t.seq + 1 else t.seq }
  else { t with timer := t.timer - 1 }

/-- The linear counter (R722). -/
def Triangle.linearClock (t : Triangle) : Triangle :=
  { t with
    linear := if t.linearReload then t.linearReloadVal else if t.linear = 0 then 0 else t.linear - 1
    linearReload := t.linearReload && t.control }

/-- The length counter, with `control` as the halt bit (R723). -/
def Triangle.lengthClock (t : Triangle) : Triangle := { t with length := Machine.lengthClock t.control t.length }

/-- The output level (R724). -/
def Triangle.out (t : Triangle) : Nat := triangleTable.getD t.seq.toNat 0

def Triangle.enable (t : Triangle) (on : Bool) : Triangle :=
  { t with enabled := on, length := if on then t.length else 0 }

/-! ## Noise channel (R730 to R734) -/

/-- 0x400C (R730). -/
def Noise.write0 (n : Noise) (b : Byte) : Noise := { n with env := n.env.write b }

/-- 0x400E (R730). -/
def Noise.write2 (n : Noise) (b : Byte) : Noise := { n with mode := b.getLsbD 7, periodIdx := b.setWidth 4 }

/-- 0x400F (R730). -/
def Noise.write3 (n : Noise) (b : Byte) : Noise :=
  { n with length := if n.enabled then lengthOf b else n.length, env := { n.env with start := true } }

/-- `LfsrClock()` (R731). -/
def lfsrClock (mode : Bool) (r : BitVec 15) : BitVec 15 :=
  let fb := r.getLsbD 0 ^^ (if mode then r.getLsbD 6 else r.getLsbD 1)
  (r >>> 1) ||| (if fb then 0x4000 else 0)

/-- `NoiseTimer()` (R731). -/
def Noise.timerClock (n : Noise) : Noise :=
  if n.timer = 0 then
    { n with
      timer := BitVec.ofNat 12 (noisePeriodTable.getD n.periodIdx.toNat 0 - 1)
      lfsr := lfsrClock n.mode n.lfsr }
  else { n with timer := n.timer - 1 }

/-- The length counter (R733). -/
def Noise.lengthClock (n : Noise) : Noise := { n with length := Machine.lengthClock n.env.halt n.length }

/-- The output level (R734). -/
def Noise.out (n : Noise) : Nat := if n.lfsr.getLsbD 0 || decide (n.length = 0) then 0 else n.env.out

def Noise.enable (n : Noise) (on : Bool) : Noise := { n with enabled := on, length := if on then n.length else 0 }

/-! ## Delta-modulation channel (R740 to R749), without its reader's bus access -/

/-- 0x4010 but for the interrupt flag (R741). -/
def Dmc.write0 (d : Dmc) (b : Byte) : Dmc :=
  { d with irqEn := b.getLsbD 7, loop := b.getLsbD 6, rateIdx := b.setWidth 4 }

/-- `DmcOutputClock()` (R745): the level moves by 2 and never leaves 0 to 127. -/
def Dmc.outputClock (d : Dmc) : Dmc :=
  let level :=
    if d.silence then d.level
    else if d.shift.getLsbD 0 then (if d.level.toNat ≤ 125 then d.level + 2 else d.level)
    else if 2 ≤ d.level.toNat then d.level - 2 else d.level
  if d.bitsLeft - 1 = 0 then
    if d.bufferFull then
      { d with level := level, bitsLeft := 8, silence := false, shift := d.buffer, bufferFull := false }
    else { d with level := level, bitsLeft := 8, silence := true, shift := d.shift >>> 1 }
  else { d with level := level, bitsLeft := d.bitsLeft - 1, shift := d.shift >>> 1 }

/-- `DmcTimer()` (R744). -/
def Dmc.timerClock (d : Dmc) : Dmc :=
  if d.timer = 0 then
    { d.outputClock with timer := BitVec.ofNat 9 (dmcRateTable.getD d.rateIdx.toNat 0 - 1) }
  else { d with timer := d.timer - 1 }

/-- `DmcRestart()` (R746). -/
def Dmc.restart (d : Dmc) : Dmc :=
  { d with
    curAddr := BitVec.ofNat 16 (0xC000 + 64 * d.sampleAddr.toNat)
    bytesLeft := BitVec.ofNat 12 (16 * d.sampleLen.toNat + 1) }

/-- The channel's bit of the enable register (R705). -/
def Dmc.enable (d : Dmc) (on : Bool) : Dmc :=
  if on then (if d.bytesLeft = 0 then d.restart else d) else { d with bytesLeft := 0 }

/-- What a fetched byte does to the channel (R748): the buffer takes it, the address moves on and wraps from 0xFFFF to
0x8000, and a looping sample starts again when it ends. -/
def Dmc.take (d : Dmc) (b : Byte) : Dmc :=
  let d' : Dmc :=
    { d with
      buffer := b
      bufferFull := true
      curAddr := if d.curAddr = 0xFFFF then 0x8000 else d.curAddr + 1
      bytesLeft := d.bytesLeft - 1 }
  if decide (d'.bytesLeft = 0) && d.loop then d'.restart else d'

/-- The fetched byte is the last of a sample that does not loop and interrupts (R747, R748). -/
def Dmc.endsWithIrq (d : Dmc) : Bool := decide (d.bytesLeft - 1 = 0) && !d.loop && d.irqEn

/-! ## Frame sequencer (R750 to R754) -/

/-- `Quarter()` (R752): envelopes, then the triangle's linear counter. -/
def Apu.quarter (u : Apu) : Apu :=
  { u with
    pulse1 := { u.pulse1 with env := u.pulse1.env.clock }
    pulse2 := { u.pulse2 with env := u.pulse2.env.clock }
    noise := { u.noise with env := u.noise.env.clock }
    triangle := u.triangle.linearClock }

/-- `Half()` (R752): length counters, then sweeps. -/
def Apu.half (u : Apu) : Apu :=
  { u with
    pulse1 := u.pulse1.lengthClock.sweepClock true
    pulse2 := u.pulse2.lengthClock.sweepClock false
    triangle := u.triangle.lengthClock
    noise := u.noise.lengthClock }

/-- `FrameSequencerStep()` (R751). -/
def Apu.sequencerStep (u : Apu) : Apu :=
  let u' : Apu := { u with fsCycle := u.fsCycle + 1 }
  if u.fsCycle + 1 = 7457 then u'.quarter
  else if u.fsCycle + 1 = 14913 then u'.quarter.half
  else if u.fsCycle + 1 = 22371 then u'.quarter
  else if u.fsMode then
    if u.fsCycle + 1 = 37281 then u'.quarter.half
    else if u.fsCycle + 1 = 37282 then { u with fsCycle := 0 }
    else u'
  else
    if u.fsCycle + 1 = 29829 then
      let u'' := u'.quarter.half
      { u'' with frameIrq := u''.frameIrq || !u.fsIrqInhibit }
    else if u.fsCycle + 1 = 29830 then { u with fsCycle := 0 }
    else u'

/-- Write of 0x4017 (R754). -/
def Apu.writeSequencer (u : Apu) (b : Byte) : Apu :=
  let u' : Apu :=
    { u with
      fsMode := b.getLsbD 7
      fsIrqInhibit := b.getLsbD 6
      frameIrq := u.frameIrq && !b.getLsbD 6
      fsCycle := 0 }
  if b.getLsbD 7 then u'.quarter.half else u'

/-! ## Registers (R703 to R706) -/

/-- Write of 0x4015, the enable register (R705). -/
def Apu.writeEnable (u : Apu) (b : Byte) : Apu :=
  { u with
    pulse1 := u.pulse1.enable (b.getLsbD 0)
    pulse2 := u.pulse2.enable (b.getLsbD 1)
    triangle := u.triangle.enable (b.getLsbD 2)
    noise := u.noise.enable (b.getLsbD 3)
    dmcIrq := false
    dmc := u.dmc.enable (b.getLsbD 4) }

/-- Write of `b` to the register `0x4000 + n`, `n` from 0 to 0x13 (R703); 0x4009 and 0x400D are unused. -/
def Apu.writeRegister (u : Apu) (n : Nat) (b : Byte) : Apu :=
  match n with
  | 0x00 => { u with pulse1 := u.pulse1.write0 b }
  | 0x01 => { u with pulse1 := u.pulse1.write1 b }
  | 0x02 => { u with pulse1 := u.pulse1.write2 b }
  | 0x03 => { u with pulse1 := u.pulse1.write3 b }
  | 0x04 => { u with pulse2 := u.pulse2.write0 b }
  | 0x05 => { u with pulse2 := u.pulse2.write1 b }
  | 0x06 => { u with pulse2 := u.pulse2.write2 b }
  | 0x07 => { u with pulse2 := u.pulse2.write3 b }
  | 0x08 => { u with triangle := u.triangle.write0 b }
  | 0x0A => { u with triangle := u.triangle.write2 b }
  | 0x0B => { u with triangle := u.triangle.write3 b }
  | 0x0C => { u with noise := u.noise.write0 b }
  | 0x0E => { u with noise := u.noise.write2 b }
  | 0x0F => { u with noise := u.noise.write3 b }
  | 0x10 => { u with dmc := u.dmc.write0 b, dmcIrq := u.dmcIrq && b.getLsbD 7 }
  | 0x11 => { u with dmc := { u.dmc with level := b.setWidth 7 } }
  | 0x12 => { u with dmc := { u.dmc with sampleAddr := b } }
  | 0x13 => { u with dmc := { u.dmc with sampleLen := b } }
  | _ => u

/-- The status byte (R706); bit 5 is not driven and comes from `db`. -/
def Apu.statusByte (u : Apu) (db : Byte) : Byte :=
  bitAt u.dmcIrq 7 ||| bitAt u.frameIrq 6 ||| (db &&& 0x20) ||| bitAt (u.dmc.bytesLeft ≠ 0) 4 |||
    bitAt (u.noise.length ≠ 0) 3 ||| bitAt (u.triangle.length ≠ 0) 2 ||| bitAt (u.pulse2.length ≠ 0) 1 |||
    bitAt (u.pulse1.length ≠ 0) 0

/-! ## One cycle but for the reader (R702) and the audio port (R760, R761) -/

/-- The frame sequencer and the timers of one APU cycle, in the order of R702; the pulse timers run on odd cycles. -/
def Apu.clockTimers (u : Apu) : Apu :=
  let u1 := u.sequencerStep
  let u2 : Apu :=
    { u1 with triangle := u1.triangle.timerClock, noise := u1.noise.timerClock, dmc := u1.dmc.timerClock }
  if u.apuCyc % 2 = 1 then { u2 with pulse1 := u2.pulse1.timerClock, pulse2 := u2.pulse2.timerClock } else u2

/-- `Sample()` (R760). -/
def Apu.sample (u : Apu) : Sample where
  pulse1 := u.pulse1.out true
  pulse2 := u.pulse2.out false
  triangle := u.triangle.out
  noise := u.noise.out
  dmc := u.dmc.level.toNat

/-- The amplitude of a sample, by the open parameter `mix` (R760). -/
def Sample.amplitude (x : Sample) : BitVec 16 := Config.mix x.pulse1 x.pulse2 x.triangle x.noise x.dmc

/-- The reference mixer of R761, which is not normative and which nothing here uses: a number from 0 to 1. -/
def Sample.referenceMix (x : Sample) : Rat :=
  let p : Rat := (x.pulse1 + x.pulse2 : Nat)
  let tnd : Rat := (x.triangle : Rat) / 8227 + (x.noise : Rat) / 12241 + (x.dmc : Rat) / 22638
  (if p = 0 then 0 else (9588 / 100) / (8128 / p + 100)) + (if tnd = 0 then 0 else (15979 / 100) / (1 / tnd + 100))

end Sys2Proof.Machine
end

