-- ==== Sys2Proof/Machine/Update.lean ====
section
/-! DEFINITION. The named updates of `State`: one field each, everything else as it was. Every meaning and every
operation changes the state through these. -/

namespace Sys2Proof.Machine.State

def setA (s : State) (v : Byte) : State := { s with a := v }
def setX (s : State) (v : Byte) : State := { s with x := v }
def setY (s : State) (v : Byte) : State := { s with y := v }
def setSp (s : State) (v : Byte) : State := { s with sp := v }
def setPc (s : State) (v : Addr) : State := { s with pc := v }
def setP (s : State) (v : Flags) : State := { s with p := v }
def setCyc (s : State) (v : Nat) : State := { s with cyc := v }
def setFault (s : State) (v : Option Fault) : State := { s with fault := v }
def setRam (s : State) (v : Memory) : State := { s with ram := v }
def setDb (s : State) (v : Byte) : State := { s with db := v }
def setJoyStrobe (s : State) (v : Bool) : State := { s with joyStrobe := v }
def setJoyShift0 (s : State) (v : Byte) : State := { s with joyShift0 := v }
def setJoyShift1 (s : State) (v : Byte) : State := { s with joyShift1 := v }
def setNmiPending (s : State) (v : Bool) : State := { s with nmiPending := v }
def setPpu (s : State) (v : Ppu) : State := { s with ppu := v }
def setApu (s : State) (v : Apu) : State := { s with apu := v }
def setMapper (s : State) (v : MapperState) : State := { s with mapper := v }
def setButtons0 (s : State) (v : Byte) : State := { s with buttons0 := v }
def setButtons1 (s : State) (v : Byte) : State := { s with buttons1 := v }
def setFrameCompleted (s : State) (v : Bool) : State := { s with frameCompleted := v }
def setSamples (s : State) (v : List Sample) : State := { s with samples := v }

end Sys2Proof.Machine.State

namespace Sys2Proof.Machine

/-- `raise Fault(r)` (R18, R802): latch the reason. The first fault of a step is the one reported (R803), and a latched
fault is never cleared (R116). -/
def raise (r : Fault) (s : State) : State := s.setFault (s.fault.or (some r))

end Sys2Proof.Machine
end

