-- ==== Sys2Proof/Machine/Flags.lean ====
section
/-! DEFINITION. The status byte and every flag computation (spec 10_state.md R110 to R112; 41_arithmetic_logic.md R436;
42_shift_rotate.md; 00_scope.md R15). -/

namespace Sys2Proof.Machine

/-- `pack(P, b)` (R15, R110): N, V, 1, b, D, I, Z, C from bit 7 down. -/
def Flags.pack (p : Flags) (b : Bool) : Byte :=
  bitAt p.n 7 ||| bitAt p.v 6 ||| 0x20 ||| bitAt b 4 ||| bitAt p.d 3 ||| bitAt p.i 2 ||| bitAt p.z 1 ||| bitAt p.c 0

/-- `unpack(v)` (R15, R112): bits 5 and 4 are ignored. -/
def Flags.unpack (v : Byte) : Flags where
  n := v.getLsbD 7
  v := v.getLsbD 6
  d := v.getLsbD 3
  i := v.getLsbD 2
  z := v.getLsbD 1
  c := v.getLsbD 0

/-- `setZN(v)` on flags (R15). -/
def Flags.zn (p : Flags) (v : Byte) : Flags := { p with z := decide (v = 0), n := v.getLsbD 7 }

/-- The 9-bit sum `A + M + P.C` of R436, unbounded. -/
def adcSum (a m : Byte) (c : Bool) : Nat := a.toNat + m.toNat + c.toNat

/-- The result byte of `ADC` (R421, R436). -/
def adcResult (a m : Byte) (c : Bool) : Byte := BitVec.ofNat 8 (adcSum a m c)

/-- The flags after `ADC` (R421, R436): carry out of bit 7, signed overflow, zero and negative of the result. -/
def adcFlags (p : Flags) (a m : Byte) : Flags :=
  let r := adcResult a m p.c
  { p.zn r with
    v := ((a ^^^ r) &&& (m ^^^ r)).getLsbD 7
    c := decide (0xFF < adcSum a m p.c) }

/-- The flags after comparing register value `r` with `m` (R426, R436): V is not touched. -/
def cmpFlags (p : Flags) (r m : Byte) : Flags :=
  { p with c := decide (m.toNat ≤ r.toNat), z := decide (r = m), n := (r - m).getLsbD 7 }

/-- The flags after `BIT` (R429): N and V from the memory byte. -/
def bitFlags (p : Flags) (a m : Byte) : Flags :=
  { p with z := decide (a &&& m = 0), n := m.getLsbD 7, v := m.getLsbD 6 }

/-! The one-position shifts (R451 to R454): the result, and the bit that leaves into carry. -/

def aslResult (m : Byte) : Byte := m <<< 1
def lsrResult (m : Byte) : Byte := m >>> 1
def rolResult (m : Byte) (c : Bool) : Byte := (m <<< 1) ||| bitAt c 0
def rorResult (m : Byte) (c : Bool) : Byte := (m >>> 1) ||| bitAt c 7

/-! On the state. -/

/-- `setZN(v)` (R15). -/
def State.setZN (s : State) (v : Byte) : State := s.setP (s.p.zn v)

/-- `P.C <- c`. -/
def State.setC (s : State) (c : Bool) : State := s.setP { s.p with c := c }

end Sys2Proof.Machine
end

