-- ==== Sys2Proof/Machine/Mapper.lean ====
section
/-! DEFINITION. The Mapper port (spec 20_memory.md R240 to R248): the interface, the fixed mapping (identifier 0, R247),
and for every other identifier the functions of Config that nothing constrains. -/

namespace Sys2Proof.Machine

/-- A cartridge with the fixed mapping: mapper identifier 0 (R247). -/
def State.fixedMapping (s : State) : Bool := s.cart.mapperId == 0

/-- `translate_prg_address` (R240, R247): with the fixed mapping 0x8000 to 0xFFFF is the program memory, repeated, and
nothing else is driven. -/
def translatePrg (s : State) (a : Addr) : Option (PrgRegion × Nat) :=
  if s.fixedMapping then
    if 0x8000 ≤ a.toNat then some (.prgRom, (a.toNat - 0x8000) % (16384 * s.cart.prgBanks)) else none
  else Config.translatePrg s.cart.mapperId s.mapper.variant.regs a

/-- `translate_chr_address` (R240, R247). -/
def translateChr (s : State) (a : PpuAddr) : Nat :=
  if s.fixedMapping then a.toNat else Config.translateChr s.cart.mapperId s.mapper.variant.regs a

/-- `mirroring_mode` (R245): the header's with the fixed mapping. -/
def mirroringMode (s : State) : Mirroring :=
  if s.fixedMapping then s.cart.mirroring else Config.mirroringMode s.cart.mapperId s.mapper.variant.regs s.cart.mirroring

/-- `irq_pending` (R244): never with the fixed mapping. -/
def mapperIrq (s : State) : Bool := !s.fixedMapping && s.mapper.variant.irqPending

/-- `on_cpu_write` (R240, R247): the variant's state after a CPU write. The write may clear the request (R244). -/
def onCpuWrite (s : State) (a : Addr) (v : Byte) : VariantState :=
  if s.fixedMapping then s.mapper.variant
  else
    let regs := Config.onCpuWrite s.cart.mapperId s.mapper.variant.regs a v
    { regs := regs, irqPending := Config.mapperIrq s.cart.mapperId regs }

/-- `scanline_tick` (R240, R244): the variant's state after a tick. A tick may raise the request and never clears it. -/
def scanlineTick (s : State) : VariantState :=
  let regs := Config.scanlineTick s.cart.mapperId s.mapper.variant.regs
  { regs := regs, irqPending := s.mapper.variant.irqPending || Config.mapperIrq s.cart.mapperId regs }

/-- `MapperTick()` (R646, R244): the fixed mapping ignores it. -/
def mapperTick (s : State) : State :=
  if s.fixedMapping then s else s.setMapper { s.mapper with variant := scanlineTick s }

/-- The physical size of a program region: banks of 16384 bytes (R9, R246). -/
def prgSize (s : State) : PrgRegion → Nat
  | .prgRom => 16384 * s.cart.prgBanks
  | .prgRam => s.cart.prgRamSize

/-- The byte at an offset of a program region (R241). -/
def prgByte (s : State) : PrgRegion → Nat → Byte
  | .prgRom, o => s.cart.prg.read .prg o
  | .prgRam, o => s.mapper.prgRam.read .prgRam o

/-- `Mapper.cpu_read(a)` (R241, R246, R212): the byte and the state; `db` answers where nothing drives the bus. -/
def cartRead (a : Addr) (s : State) : Byte × State :=
  match translatePrg s a with
  | none => (s.db, s)
  | some (r, o) =>
    if o < prgSize s r then (prgByte s r o, s.setDb (prgByte s r o)) else (s.db, raise (.mapperBounds a) s)

/-- `Mapper.cpu_write(a, v)` (R242, R246): the place is translated with the registers before the write; a write to ROM
stores nothing. -/
def cartWrite (a : Addr) (v : Byte) (s : State) : State :=
  let s' := s.setMapper { s.mapper with variant := onCpuWrite s a v }
  match translatePrg s a with
  | none => s'
  | some (r, o) =>
    if o < prgSize s r then
      match r with
      | .prgRom => s'
      | .prgRam => s'.setMapper { s'.mapper with prgRam := s.mapper.prgRam.write .prgRam o v }
    else raise (.mapperBounds a) s'

/-- The cartridge has graphics RAM when its header has no graphics bank (R150, R247). -/
def State.hasChrRam (s : State) : Bool := s.cart.chrBanks == 0

/-- The physical size of graphics memory: banks of 8192 bytes, or 8192 bytes of RAM (R9, R247). -/
def chrSize (s : State) : Nat := if s.hasChrRam then 8192 else 8192 * s.cart.chrBanks

/-- `Mapper.ppu_read(a)` for `a` below 0x2000 (R243, R246). -/
def chrRead (a : PpuAddr) (s : State) : Byte × State :=
  let o := translateChr s a
  if o < chrSize s then
    (if s.hasChrRam then s.mapper.chrRam.read .chrRam o else s.cart.chr.read .chr o, s)
  else (0, raise (.mapperBounds (a.setWidth 16)) s)

/-- `Mapper.ppu_write(a, v)` for `a` below 0x2000 (R243, R246): graphics ROM ignores it. -/
def chrWrite (a : PpuAddr) (v : Byte) (s : State) : State :=
  let o := translateChr s a
  if o < chrSize s then
    if s.hasChrRam then s.setMapper { s.mapper with chrRam := s.mapper.chrRam.write .chrRam o v } else s
  else raise (.mapperBounds (a.setWidth 16)) s

end Sys2Proof.Machine
end

