-- ==== Sys2Proof/Machine/PpuBus.lean ====
section
/-! DEFINITION. The PPU's own address space (spec 20_memory.md R250 to R254). -/

namespace Sys2Proof.Machine

/-- `phys(table)` (R253): which physical 1024 bytes answer for a logical table. -/
def physTable : Mirroring → Nat → Nat
  | .horizontal, table => table / 2
  | .vertical, table => table % 2
  | .fourScreen, table => table

/-- The cell of `vram` for a nametable address (R252, R253): the fold keeps bits 11 to 0, of which bits 11 and 10 name
the logical table. -/
def vramIndex (m : Mirroring) (a : PpuAddr) : Nat :=
  physTable m (a.toNat / 1024 % 4) * 1024 + a.toNat % 1024

/-- The cell of `palette` for an address or an index (R254): entries 0x10, 0x14, 0x18, 0x1C are 0x00, 0x04, 0x08, 0x0C. -/
def paletteIndex (a : Nat) : Nat :=
  let i := a % 0x20
  if i % 4 = 0 then i % 0x10 else i

/-- `PpuRead(a)` (R250): the byte and the state, which changes only where the cartridge's bounds are left (R246). -/
def ppuRead (a : PpuAddr) (s : State) : Byte × State :=
  if a.toNat < 0x2000 then chrRead a s
  else if a.toNat < 0x3F00 then (s.ppu.vram.read .vram (vramIndex (mirroringMode s) a), s)
  else ((s.ppu.palette.read .palette (paletteIndex a.toNat)).setWidth 8, s)

/-- `PpuWrite(a, v)` (R250): the palette keeps the low six bits (R254). -/
def ppuWrite (a : PpuAddr) (v : Byte) (s : State) : State :=
  if a.toNat < 0x2000 then chrWrite a v s
  else if a.toNat < 0x3F00 then
    s.setPpu { s.ppu with vram := s.ppu.vram.write .vram (vramIndex (mirroringMode s) a) v }
  else s.setPpu { s.ppu with palette := s.ppu.palette.write .palette (paletteIndex a.toNat) (v.setWidth 6) }

end Sys2Proof.Machine
end

