-- ==== Sys2Proof/Machine/PpuPorts.lean ====
section
/-! DEFINITION. The PPU's control fields and its eight CPU ports (spec 46_ppu_rasterizer.md R601 to R618). -/

namespace Sys2Proof.Machine

/-! Fields of `ctrl` and `mask`, by the names of R601. -/

def Ppu.vinc (p : Ppu) : BitVec 15 := if p.ctrl.getLsbD 2 then 32 else 1
def Ppu.sprBase (p : Ppu) : Nat := if p.ctrl.getLsbD 3 then 0x1000 else 0
def Ppu.bgBase (p : Ppu) : Nat := if p.ctrl.getLsbD 4 then 0x1000 else 0
def Ppu.spriteH (p : Ppu) : Nat := if p.ctrl.getLsbD 5 then 16 else 8
def Ppu.nmiEnable (p : Ppu) : Bool := p.ctrl.getLsbD 7
def Ppu.grey (p : Ppu) : Bool := p.mask.getLsbD 0
def Ppu.bgLeft (p : Ppu) : Bool := p.mask.getLsbD 1
def Ppu.sprLeft (p : Ppu) : Bool := p.mask.getLsbD 2
def Ppu.showBg (p : Ppu) : Bool := p.mask.getLsbD 3
def Ppu.showSpr (p : Ppu) : Bool := p.mask.getLsbD 4
def Ppu.emph (p : Ppu) : BitVec 3 := p.mask.extractLsb' 5 3
def Ppu.rendering (p : Ppu) : Bool := p.showBg || p.showSpr

/-- Port 0 write (R611), after `io_latch` has taken the byte; the second component says that `nmi_pending` is set. -/
def Ppu.writeCtrl (p : Ppu) (b : Byte) : Ppu :=
  { p with ctrl := b, t := (p.t &&& 0x73FF) ||| ((b &&& 0x03).setWidth 15 <<< 10) }

/-- Port 5 write, the scroll port (R613). -/
def Ppu.writeScroll (p : Ppu) (b : Byte) : Ppu :=
  if p.w then
    { p with
      t := (p.t &&& 0x0C1F) ||| ((b &&& 0x07).setWidth 15 <<< 12) ||| ((b >>> 3).setWidth 15 <<< 5)
      w := false }
  else { p with t := (p.t &&& 0x7FE0) ||| (b >>> 3).setWidth 15, x := b.setWidth 3, w := true }

/-- Port 6 write, the address port (R614). -/
def Ppu.writeAddr (p : Ppu) (b : Byte) : Ppu :=
  if p.w then
    let t := (p.t &&& 0x7F00) ||| b.setWidth 15
    { p with t := t, v := t, w := false }
  else { p with t := (p.t &&& 0x00FF) ||| ((b &&& 0x3F).setWidth 15 <<< 8), w := true }

/-- The byte OAM keeps of `b` at `addr` (R612): bits 4 to 2 of an attribute byte do not exist. -/
def oamByte (addr b : Byte) : Byte := if addr &&& 3 = 2 then b &&& 0xE3 else b

/-- Port 4 write (R612). -/
def Ppu.writeOamData (p : Ppu) (b : Byte) : Ppu :=
  { p with oam := p.oam.write .oam p.oamAddr.toNat (oamByte p.oamAddr b), oamAddr := p.oamAddr + 1 }

/-- The byte a read of port 2 returns (R610). -/
def Ppu.statusByte (p : Ppu) : Byte :=
  bitAt p.vblank 7 ||| bitAt p.sprite0Hit 6 ||| bitAt p.spriteOverflow 5 ||| (p.ioLatch &&& 0x1F)

/-- A CPU write of `b` to port `n` (R605 to R618); `io_latch` takes the byte first (R606). -/
def ppuPortWrite (n : Nat) (b : Byte) (s : State) : State :=
  let p : Ppu := { s.ppu with ioLatch := b }
  match n with
  | 0 =>
    let raises := s.params.nmiOnEnable && !p.nmiEnable && b.getLsbD 7 && p.vblank
    (s.setPpu (p.writeCtrl b)).setNmiPending (s.nmiPending || raises)
  | 1 => s.setPpu { p with mask := b }
  | 3 => s.setPpu { p with oamAddr := b }
  | 4 => s.setPpu (p.writeOamData b)
  | 5 => s.setPpu (p.writeScroll b)
  | 6 => s.setPpu (p.writeAddr b)
  | 7 =>
    let s' := ppuWrite (p.v.setWidth 14) b (s.setPpu p)
    s'.setPpu { s'.ppu with v := s'.ppu.v + s'.ppu.vinc }
  | _ => s.setPpu p

/-- Port 2 read (R610). -/
def readStatus (s : State) : Byte × State :=
  let r := s.ppu.statusByte
  (r, s.setPpu { s.ppu with
        vblSuppress := s.ppu.vblSuppress || s.params.vblRaceWindow.contains (s.ppu.scanline, s.ppu.dot)
        vblank := false
        w := false
        ioLatch := r })

/-- Port 4 read (R618). -/
def readOamData (s : State) : Byte × State :=
  let r := s.ppu.oam.read .oam s.ppu.oamAddr.toNat
  (r, s.setPpu { s.ppu with ioLatch := r })

/-- Port 7 read (R617). -/
def readData (s : State) : Byte × State :=
  let a : PpuAddr := s.ppu.v.setWidth 14
  let (m, s1) := ppuRead a s
  if a.toNat < 0x3F00 then
    let r := s.ppu.readBuffer
    (r, s1.setPpu { s1.ppu with readBuffer := m, v := s1.ppu.v + s1.ppu.vinc, ioLatch := r })
  else
    let r := (m &&& 0x3F) ||| (s.ppu.ioLatch &&& 0xC0)
    let (under, s2) := ppuRead (a &&& 0x2FFF) s1
    (r, s2.setPpu { s2.ppu with readBuffer := under, v := s2.ppu.v + s2.ppu.vinc, ioLatch := r })

/-- A CPU read of port `n` (R605 to R618): write-only ports answer `io_latch` (R607). -/
def ppuPortRead (n : Nat) (s : State) : Byte × State :=
  match n with
  | 2 => readStatus s
  | 4 => readOamData s
  | 7 => readData s
  | _ => (s.ppu.ioLatch, s)

end Sys2Proof.Machine
end

