-- ==== Sys2Proof/Machine/Ops.lean ====
section
/-! DEFINITION. The CPU bus (spec 20_memory.md R200 to R236), sprite DMA, the stack (00_scope.md R17), taking an
interrupt and returning from one (60_exceptions.md R814, R818), instruction fetch (30_encoding.md R302) and the
reset sequence (70_reset_and_hazards.md R900). -/

namespace Sys2Proof.Machine

/-! ## The decoder (R201) -/

/-- What answers at an address: the rows of R201. -/
inductive Device where
  | ram (index : Nat)
  | ppuPort (n : Nat)
  | apuRegister (n : Nat)  -- 0x4000 + n, n up to 0x13: write-only
  | dma                    -- 0x4014: write-only
  | apuStatus              -- 0x4015
  | controller1            -- 0x4016
  | controller2            -- 0x4017: controller 2 on reads, frame sequencer on writes
  | nothing                -- 0x4018 to 0x401F
  | cartridge
deriving DecidableEq, Repr

/-- The decoder of R201, with the mirroring of R203 and R204. -/
def route (a : Addr) : Device :=
  let n := a.toNat
  if n < 0x2000 then .ram (n % 2048)
  else if n < 0x4000 then .ppuPort (n % 8)
  else if n < 0x4014 then .apuRegister (n - 0x4000)
  else if n = 0x4014 then .dma
  else if n = 0x4015 then .apuStatus
  else if n = 0x4016 then .controller1
  else if n = 0x4017 then .controller2
  else if n < 0x4020 then .nothing
  else .cartridge

/-- A device answers a read with `v`, and `db` takes it (R212). -/
def driven (r : Byte × State) : Byte × State := (r.1, r.2.setDb r.1)

/-- The byte of a controller port whose data bit is `bit` (R236): bits 7 to 5 are open bus, bits 4 to 1 are 0. -/
def controllerByte (db : Byte) (bit : Bool) : Byte := (db &&& 0xE0) ||| bitAt bit 0

/-- A controller's register after a read that shifts (R236). -/
def joyShifted (r : Byte) : Byte := 0x80 ||| (r >>> 1)

/-- A read of 0x4016 (R236). -/
def readController1 (s : State) : Byte × State :=
  if s.joyStrobe then (controllerByte s.db (s.buttons0.getLsbD 0), s)
  else (controllerByte s.db (s.joyShift0.getLsbD 0), s.setJoyShift0 (joyShifted s.joyShift0))

/-- A read of 0x4017 (R236). -/
def readController2 (s : State) : Byte × State :=
  if s.joyStrobe then (controllerByte s.db (s.buttons1.getLsbD 0), s)
  else (controllerByte s.db (s.joyShift1.getLsbD 0), s.setJoyShift1 (joyShifted s.joyShift1))

/-- A read of 0x4015 (R706): it acknowledges the frame interrupt. -/
def readApuStatus (s : State) : Byte × State :=
  (s.apu.statusByte s.db, s.setApu { s.apu with frameIrq := false })

/-- `Read8(a)` (R16, R201, R212): the byte and the state after the read. Where no device answers, the byte is `db`. -/
def read8 (a : Addr) (s : State) : Byte × State :=
  match route a with
  | .ram i => driven (s.ram.read .ram i, s)
  | .ppuPort n => driven (ppuPortRead n s)
  | .apuRegister _ => (s.db, s)
  | .dma => (s.db, s)
  | .apuStatus => driven (readApuStatus s)
  | .controller1 => driven (readController1 s)
  | .controller2 => driven (readController2 s)
  | .nothing => (s.db, s)
  | .cartridge => cartRead a s

/-- The byte memory holds at a CPU address, with no access made: work RAM or what the cartridge drives. `none` where a
device or nothing answers. -/
def memByte (s : State) (a : Addr) : Option Byte :=
  match route a with
  | .ram i => some (s.ram.read .ram i)
  | .cartridge =>
    match translatePrg s a with
    | some (r, o) => if o < prgSize s r then some (prgByte s r o) else none
    | none => none
  | _ => none

/-- A write of 0x4016 (R235): bit 0 is the strobe, and a 1 latches both controllers. -/
def writeStrobe (v : Byte) (s : State) : State :=
  let s' := s.setJoyStrobe (v.getLsbD 0)
  if v.getLsbD 0 then (s'.setJoyShift0 s.buttons0).setJoyShift1 s.buttons1 else s'

/-- Bytes `256 - k` to 255 of the sprite DMA from page `page` (R231): each is read on the CPU bus and written through
PPU port 4. -/
def dmaLoop (page : Byte) : Nat → State → State
  | 0, s => s
  | k + 1, s =>
    let r := read8 (word page (BitVec.ofNat 8 (255 - k))) s
    dmaLoop page k (ppuPortWrite 4 r.1 r.2)

/-- The sprite DMA of R231. -/
def spriteDma (page : Byte) (s : State) : State := dmaLoop page 256 s

/-- `Write8(a, v)` (R16, R201, R212): the device's action, then `db` takes the byte; a write of 0x4014 is followed by
the sprite DMA. -/
def write8 (a : Addr) (v : Byte) (s : State) : State :=
  match route a with
  | .ram i => (s.setRam (s.ram.write .ram i v)).setDb v
  | .ppuPort n => (ppuPortWrite n v s).setDb v
  | .apuRegister n => (s.setApu (s.apu.writeRegister n v)).setDb v
  | .dma => spriteDma v (s.setDb v)
  | .apuStatus => (s.setApu (s.apu.writeEnable v)).setDb v
  | .controller1 => (writeStrobe v s).setDb v
  | .controller2 => (s.setApu (s.apu.writeSequencer v)).setDb v
  | .nothing => s.setDb v
  | .cartridge => (cartWrite a v s).setDb v

/-- The cycles a write of `a` adds for sprite DMA to an instruction that starts at `cyc0` and costs `c` (R232). -/
def dmaCost (a : Addr) (cyc0 c : Nat) : Nat := if route a = .dma then 513 + (cyc0 + c) % 2 else 0

/-- `Read16(a)` (R16): low byte first, at the lower address. -/
def read16 (a : Addr) (s : State) : Addr × State :=
  let l := read8 a s
  let h := read8 (a + 1) l.2
  (word h.1 l.1, h.2)

/-- Two bytes of a pointer whose second byte is on the page of the first (R308, R309, R310). -/
def read16SamePage (a : Addr) (s : State) : Addr × State :=
  let l := read8 a s
  let h := read8 (word (hi a) (lo a + 1)) l.2
  (word h.1 l.1, h.2)

/-! ## The stack (R17, R105, R106) -/

/-- The stack address for a pointer value (R105). -/
def stackAddr (sp : Byte) : Addr := word 0x01 sp

/-- The address the next push writes (R106). -/
def pushAddr (s : State) : Addr :=
  match s.params.stackOrder with
  | .docPredecrement => stackAddr (s.sp - 1)
  | .mosPostdecrement => stackAddr s.sp

/-- The address the next pull reads (R106). -/
def pullAddr (s : State) : Addr :=
  match s.params.stackOrder with
  | .docPredecrement => stackAddr s.sp
  | .mosPostdecrement => stackAddr (s.sp + 1)

/-- `Push8(v)` (R17, R106). -/
def push8 (v : Byte) (s : State) : State :=
  match s.params.stackOrder with
  | .docPredecrement => write8 (stackAddr (s.sp - 1)) v (s.setSp (s.sp - 1))
  | .mosPostdecrement => (write8 (stackAddr s.sp) v s).setSp (s.sp - 1)

/-- `Pull8()` (R17, R106). -/
def pull8 (s : State) : Byte × State :=
  match s.params.stackOrder with
  | .docPredecrement =>
    let r := read8 (stackAddr s.sp) s
    (r.1, r.2.setSp (s.sp + 1))
  | .mosPostdecrement => read8 (stackAddr (s.sp + 1)) (s.setSp (s.sp + 1))

/-- `Push16(w)` (R17): high byte, then low byte. -/
def push16 (w : Addr) (s : State) : State := push8 (lo w) (push8 (hi w) s)

/-- `Pull16()` (R17): low byte, then high byte. -/
def pull16 (s : State) : Addr × State :=
  let l := pull8 s
  let h := pull8 l.2
  (word h.1 l.1, h.2)

/-! ## Interrupts (R814, R818) -/

/-- The vectors of R215. -/
def nmiVector : Addr := 0xFFFA
def resetVector : Addr := 0xFFFC
def irqVector : Addr := 0xFFFE

/-- Taking an interrupt (R814): push the return address and the status image with break bit `brk`, set I where `setI`
says so, load PC from the vector. `BRK`, NMI entry and IRQ entry are this one operation; the 7 cycles are the caller's
(R815). -/
def enterInterrupt (retAddr : Addr) (brk setI : Bool) (vector : Addr) (s : State) : State :=
  let s1 := push16 retAddr s
  let s2 := push8 (s1.p.pack brk) s1
  let s3 := if setI then s2.setP { s2.p with i := true } else s2
  let r := read16 vector s3
  r.2.setPc r.1

/-- Returning from an interrupt (R818, R496): pull P, then PC, adding nothing to it. -/
def returnFromInterrupt (s : State) : State :=
  let f := pull8 s
  let r := pull16 (f.2.setP (Flags.unpack f.1))
  r.2.setPc r.1

/-! ## Fetch (R302) -/

/-- What is left of the read of an opcode byte that has no table entry (R302 (2), R523, R802): `db` and a bounds fault. No
side effect of the device that answered stays. -/
def onlyLatched (s t : State) : State := (s.setDb t.db).setFault t.fault

/-- The state after the read of the opcode byte of a one-byte instruction; `s` is the state before, `t` after. -/
def afterOpcode (i : Instr) (s t : State) : State :=
  match i with
  | .undecodable _ => onlyLatched s t
  | _ => t

/-- Phases 1 to 3 of R302: the opcode byte at PC, decode, then the operand bytes the format wants, each by its own
`Read8` and at an address that wraps (R108, R316). PC itself is not moved. (Where the opcode read leaves the
cartridge's bounds the step stops with that fault, R803, whatever this returns.) -/
def fetch (s : State) : Instr × State :=
  let op := read8 s.pc s
  match opcodeFormat op.1 with
  | .one i => (i, afterOpcode i s op.2)
  | .two f =>
    let b1 := read8 (s.pc + 1) op.2
    (f b1.1, b1.2)
  | .three f =>
    let b1 := read8 (s.pc + 1) op.2
    let b2 := read8 (s.pc + 2) b1.2
    (f b1.1 b2.1, b2.2)

/-! ## Reset (R900, R155) -/

/-- The reset sequence of R900 for any cartridge, parameters and initial memory contents: every state element at its
value in R155, then `PC <- Read16(0xFFFC)`. DESIGN CHOICE (assumption 20): `initOam` is taken byte for byte, bits 4 to 2 of
its attribute bytes with it. -/
def powerOn (cart : Cartridge) (params : Params) (initRam initVram initOam : Memory) (initPalette : Cells 6) : State :=
  let s : State :=
    { State.reset with
      db := 0
      ram := initRam
      ppu := { Ppu.reset with vram := initVram, oam := initOam, palette := initPalette }
      cart := cart
      params := params }
  let r := read16 resetVector s
  r.2.setPc r.1

end Sys2Proof.Machine
end

