-- ==== Sys2Proof/Machine/Operands.lean ====
section
/-! DEFINITION. The addressing modes (spec 30_encoding.md R301 to R311) and the shapes of instruction built on them: what
is read, what is written, where PC goes and what it costs (R320 to R322). A meaning is one of these shapes with its
operation, its base cycles and its `+p` mark filled in. -/

namespace Sys2Proof.Machine

/-- The modes with an operand in memory, with their operand bytes (R301). -/
inductive Mode where
  | zp (b1 : Byte)
  | zpx (b1 : Byte)
  | zpy (b1 : Byte)
  | abs (b1 b2 : Byte)
  | abx (b1 b2 : Byte)
  | aby (b1 b2 : Byte)
  | izx (b1 : Byte)
  | izy (b1 : Byte)
deriving DecidableEq, Repr

/-- The length of an instruction in this mode (R301). -/
def Mode.length : Mode → Nat
  | .zp _ | .zpx _ | .zpy _ | .izx _ | .izy _ => 2
  | .abs _ _ | .abx _ _ | .aby _ _ => 3

/-- A resolved operand: the effective address, the page-cross bit, and the state after the pointer reads. -/
structure Resolved where
  ea : Addr
  crossed : Bool
  st : State

/-- A base and an index: the sum modulo 65536, and whether its page is not the base's (R306). -/
def indexed (base : Addr) (index : Byte) (s : State) : Resolved :=
  let ea := base + zext16 index
  { ea := ea, crossed := decide (hi ea ≠ hi base), st := s }

/-- Address resolution (R304 to R310): a function of the mode, X, Y and the pointer bytes it reads (R315). -/
def Mode.resolve (m : Mode) (s : State) : Resolved :=
  match m with
  | .zp b1 => { ea := zext16 b1, crossed := false, st := s }
  | .zpx b1 => { ea := zext16 (b1 + s.x), crossed := false, st := s }
  | .zpy b1 => { ea := zext16 (b1 + s.y), crossed := false, st := s }
  | .abs b1 b2 => { ea := word b2 b1, crossed := false, st := s }
  | .abx b1 b2 => indexed (word b2 b1) s.x s
  | .aby b1 b2 => indexed (word b2 b1) s.y s
  | .izx b1 =>
    let p := read16SamePage (zext16 (b1 + s.x)) s
    { ea := p.1, crossed := false, st := p.2 }
  | .izy b1 =>
    let p := read16SamePage (zext16 b1) s
    indexed p.1 s.y p.2

/-- `PC <- pc0 +16 len` (R108). -/
def advance (len : Nat) (s : State) : State := s.setPc (s.pc + BitVec.ofNat 16 len)

/-- `cyc <- cyc + cost` (R320). -/
def charge (cost : Nat) (s : State) : State := s.setCyc (s.cyc + cost)

/-- The outcome of every instruction: it completes (R801). -/
abbrev Result := Host.Outcome State Fault Refusal

/-- An instruction without a memory operand: `len` bytes, `base` cycles, and its effect. -/
def plain (len base : Nat) (f : State → State) (s : State) : Result :=
  .next (charge base (f (advance len s)))

/-- An instruction that reads its operand from memory once; `+p` forms pay for a page cross (R321). -/
def reads (m : Mode) (base : Nat) (plusP : Bool) (f : Byte → State → State) (s : State) : Result :=
  let r := m.resolve (advance m.length s)
  let v := read8 r.ea r.st
  .next (charge (base + (plusP && r.crossed).toNat) (f v.1 v.2))

/-- An instruction that stores a byte of the registers and reads nothing; its cost is fixed but for sprite DMA. -/
def stores (m : Mode) (base : Nat) (src : State → Byte) (s : State) : Result :=
  let r := m.resolve (advance m.length s)
  .next (charge (base + dmaCost r.ea s.cyc base) (write8 r.ea (src s) r.st))

/-- A read-modify-write instruction (R213, R222): one read, the change `f` of the byte and the carry, one write of the
same address, then what `g` does with the byte written. Its cost is fixed but for sprite DMA. -/
def modifies (m : Mode) (base : Nat) (f : Byte → State → Byte × State) (g : Byte → State → State) (s : State) : Result :=
  let r := m.resolve (advance m.length s)
  let v := read8 r.ea r.st
  let w := f v.1 v.2
  .next (charge (base + dmaCost r.ea s.cyc base) (g w.1 (write8 r.ea w.1 w.2)))

/-- The accumulator form of a shift: the same change, of A. -/
def modifiesA (base : Nat) (f : Byte → State → Byte × State) (g : Byte → State → State) (s : State) : Result :=
  plain 1 base (fun s => let w := f s.a s; g w.1 (w.2.setA w.1)) s

/-- A `NOP` with a memory operand (R513): the address is computed for its page cross, and nothing is read. -/
def skips (m : Mode) (base : Nat) (plusP : Bool) (s : State) : Result :=
  let r := m.resolve (advance m.length s)
  .next (charge (base + (plusP && r.crossed).toNat) r.st)

/-- A conditional branch (R464, R322): the target is relative to the next instruction; one cycle more when taken, one
more again when the target's page is not the next instruction's. -/
def branches (cond : Bool) (b1 : Byte) (s : State) : Result :=
  let next := s.pc + 2
  let t := next + sext16 b1
  if cond then .next (charge (3 + (decide (hi t ≠ hi next)).toNat) (s.setPc t))
  else .next (charge 2 (s.setPc next))

end Sys2Proof.Machine
end

