-- ==== Sys2Proof/Machine/Alu.lean ====
section
/-! DEFINITION. What the instructions do with an operand byte: loads, arithmetic, logic, compare, the changes of a
read-modify-write (spec 40_load_store_transfer.md to 45_unofficial.md). Official and unofficial instructions share them. -/

namespace Sys2Proof.Machine

/-! ## Loads (R401 to R403, R514) -/

def loadA (m : Byte) (s : State) : State := (s.setA m).setZN m
def loadX (m : Byte) (s : State) : State := (s.setX m).setZN m
def loadY (m : Byte) (s : State) : State := (s.setY m).setZN m
def loadAX (m : Byte) (s : State) : State := ((s.setA m).setX m).setZN m

/-! ## Arithmetic and logic on A (R421 to R425, R436) -/

/-- `ADC` with operand `m` (R421). -/
def addA (m : Byte) (s : State) : State := (s.setA (adcResult s.a m s.p.c)).setP (adcFlags s.p s.a m)

/-- `SBC` with operand `m` is `ADC` with its complement (R422, R436). -/
def subA (m : Byte) (s : State) : State := addA (m ^^^ 0xFF) s

def andA (m : Byte) (s : State) : State := loadA (s.a &&& m) s
def orA (m : Byte) (s : State) : State := loadA (s.a ||| m) s
def xorA (m : Byte) (s : State) : State := loadA (s.a ^^^ m) s

/-! ## Compare and test (R426 to R429) -/

def compareA (m : Byte) (s : State) : State := s.setP (cmpFlags s.p s.a m)
def compareX (m : Byte) (s : State) : State := s.setP (cmpFlags s.p s.x m)
def compareY (m : Byte) (s : State) : State := s.setP (cmpFlags s.p s.y m)
def testBits (m : Byte) (s : State) : State := s.setP (bitFlags s.p s.a m)

/-! ## Changes of a byte in a read-modify-write (R430, R431, R451 to R454): the byte written and the state -/

def incByte (m : Byte) (s : State) : Byte × State := (m + 1, s)
def decByte (m : Byte) (s : State) : Byte × State := (m - 1, s)
def aslByte (m : Byte) (s : State) : Byte × State := (aslResult m, s.setC (m.getLsbD 7))
def lsrByte (m : Byte) (s : State) : Byte × State := (lsrResult m, s.setC (m.getLsbD 0))
def rolByte (m : Byte) (s : State) : Byte × State := (rolResult m s.p.c, s.setC (m.getLsbD 7))
def rorByte (m : Byte) (s : State) : Byte × State := (rorResult m s.p.c, s.setC (m.getLsbD 0))

/-- `setZN` of the byte written. -/
def flagsOf (r : Byte) (s : State) : State := s.setZN r

end Sys2Proof.Machine
end

