-- ==== Sys2Proof/Machine/Arith.lean ====
section
/-! DEFINITION. Arithmetic, logic, compare and increment instructions (spec 41_arithmetic_logic.md R421 to R436):
one meaning per row of the opcode table. A line gives the mode, the base cycles and the `+p` mark of the row beside its
operation. -/

namespace Sys2Proof.Machine

/-! ADC (R421) -/

def execAdcIzx (b1 : Byte) (s : State) : Result := reads (.izx b1) 6 false addA s
def execAdcZp (b1 : Byte) (s : State) : Result := reads (.zp b1) 3 false addA s
def execAdcImm (b1 : Byte) (s : State) : Result := plain 2 2 (addA b1) s
def execAdcAbs (b1 b2 : Byte) (s : State) : Result := reads (.abs b1 b2) 4 false addA s
def execAdcIzy (b1 : Byte) (s : State) : Result := reads (.izy b1) 5 true addA s
def execAdcZpx (b1 : Byte) (s : State) : Result := reads (.zpx b1) 4 false addA s
def execAdcAby (b1 b2 : Byte) (s : State) : Result := reads (.aby b1 b2) 4 true addA s
def execAdcAbx (b1 b2 : Byte) (s : State) : Result := reads (.abx b1 b2) 4 true addA s

/-! SBC (R422) -/

def execSbcIzx (b1 : Byte) (s : State) : Result := reads (.izx b1) 6 false subA s
def execSbcZp (b1 : Byte) (s : State) : Result := reads (.zp b1) 3 false subA s
def execSbcImm (b1 : Byte) (s : State) : Result := plain 2 2 (subA b1) s
def execSbcAbs (b1 b2 : Byte) (s : State) : Result := reads (.abs b1 b2) 4 false subA s
def execSbcIzy (b1 : Byte) (s : State) : Result := reads (.izy b1) 5 true subA s
def execSbcZpx (b1 : Byte) (s : State) : Result := reads (.zpx b1) 4 false subA s
def execSbcAby (b1 b2 : Byte) (s : State) : Result := reads (.aby b1 b2) 4 true subA s
def execSbcAbx (b1 b2 : Byte) (s : State) : Result := reads (.abx b1 b2) 4 true subA s

/-! AND (R423) -/

def execAndIzx (b1 : Byte) (s : State) : Result := reads (.izx b1) 6 false andA s
def execAndZp (b1 : Byte) (s : State) : Result := reads (.zp b1) 3 false andA s
def execAndImm (b1 : Byte) (s : State) : Result := plain 2 2 (andA b1) s
def execAndAbs (b1 b2 : Byte) (s : State) : Result := reads (.abs b1 b2) 4 false andA s
def execAndIzy (b1 : Byte) (s : State) : Result := reads (.izy b1) 5 true andA s
def execAndZpx (b1 : Byte) (s : State) : Result := reads (.zpx b1) 4 false andA s
def execAndAby (b1 b2 : Byte) (s : State) : Result := reads (.aby b1 b2) 4 true andA s
def execAndAbx (b1 b2 : Byte) (s : State) : Result := reads (.abx b1 b2) 4 true andA s

/-! ORA (R424) -/

def execOraIzx (b1 : Byte) (s : State) : Result := reads (.izx b1) 6 false orA s
def execOraZp (b1 : Byte) (s : State) : Result := reads (.zp b1) 3 false orA s
def execOraImm (b1 : Byte) (s : State) : Result := plain 2 2 (orA b1) s
def execOraAbs (b1 b2 : Byte) (s : State) : Result := reads (.abs b1 b2) 4 false orA s
def execOraIzy (b1 : Byte) (s : State) : Result := reads (.izy b1) 5 true orA s
def execOraZpx (b1 : Byte) (s : State) : Result := reads (.zpx b1) 4 false orA s
def execOraAby (b1 b2 : Byte) (s : State) : Result := reads (.aby b1 b2) 4 true orA s
def execOraAbx (b1 b2 : Byte) (s : State) : Result := reads (.abx b1 b2) 4 true orA s

/-! EOR (R425) -/

def execEorIzx (b1 : Byte) (s : State) : Result := reads (.izx b1) 6 false xorA s
def execEorZp (b1 : Byte) (s : State) : Result := reads (.zp b1) 3 false xorA s
def execEorImm (b1 : Byte) (s : State) : Result := plain 2 2 (xorA b1) s
def execEorAbs (b1 b2 : Byte) (s : State) : Result := reads (.abs b1 b2) 4 false xorA s
def execEorIzy (b1 : Byte) (s : State) : Result := reads (.izy b1) 5 true xorA s
def execEorZpx (b1 : Byte) (s : State) : Result := reads (.zpx b1) 4 false xorA s
def execEorAby (b1 b2 : Byte) (s : State) : Result := reads (.aby b1 b2) 4 true xorA s
def execEorAbx (b1 b2 : Byte) (s : State) : Result := reads (.abx b1 b2) 4 true xorA s

/-! CMP (R426) -/

def execCmpIzx (b1 : Byte) (s : State) : Result := reads (.izx b1) 6 false compareA s
def execCmpZp (b1 : Byte) (s : State) : Result := reads (.zp b1) 3 false compareA s
def execCmpImm (b1 : Byte) (s : State) : Result := plain 2 2 (compareA b1) s
def execCmpAbs (b1 b2 : Byte) (s : State) : Result := reads (.abs b1 b2) 4 false compareA s
def execCmpIzy (b1 : Byte) (s : State) : Result := reads (.izy b1) 5 true compareA s
def execCmpZpx (b1 : Byte) (s : State) : Result := reads (.zpx b1) 4 false compareA s
def execCmpAby (b1 b2 : Byte) (s : State) : Result := reads (.aby b1 b2) 4 true compareA s
def execCmpAbx (b1 b2 : Byte) (s : State) : Result := reads (.abx b1 b2) 4 true compareA s

/-! CPX (R427) -/

def execCpxImm (b1 : Byte) (s : State) : Result := plain 2 2 (compareX b1) s
def execCpxZp (b1 : Byte) (s : State) : Result := reads (.zp b1) 3 false compareX s
def execCpxAbs (b1 b2 : Byte) (s : State) : Result := reads (.abs b1 b2) 4 false compareX s

/-! CPY (R428) -/

def execCpyImm (b1 : Byte) (s : State) : Result := plain 2 2 (compareY b1) s
def execCpyZp (b1 : Byte) (s : State) : Result := reads (.zp b1) 3 false compareY s
def execCpyAbs (b1 b2 : Byte) (s : State) : Result := reads (.abs b1 b2) 4 false compareY s

/-! BIT (R429) -/

def execBitZp (b1 : Byte) (s : State) : Result := reads (.zp b1) 3 false testBits s
def execBitAbs (b1 b2 : Byte) (s : State) : Result := reads (.abs b1 b2) 4 false testBits s

/-! INC (R430) -/

def execIncZp (b1 : Byte) (s : State) : Result := modifies (.zp b1) 5 incByte flagsOf s
def execIncAbs (b1 b2 : Byte) (s : State) : Result := modifies (.abs b1 b2) 6 incByte flagsOf s
def execIncZpx (b1 : Byte) (s : State) : Result := modifies (.zpx b1) 6 incByte flagsOf s
def execIncAbx (b1 b2 : Byte) (s : State) : Result := modifies (.abx b1 b2) 7 incByte flagsOf s

/-! DEC (R431) -/

def execDecZp (b1 : Byte) (s : State) : Result := modifies (.zp b1) 5 decByte flagsOf s
def execDecAbs (b1 b2 : Byte) (s : State) : Result := modifies (.abs b1 b2) 6 decByte flagsOf s
def execDecZpx (b1 : Byte) (s : State) : Result := modifies (.zpx b1) 6 decByte flagsOf s
def execDecAbx (b1 b2 : Byte) (s : State) : Result := modifies (.abx b1 b2) 7 decByte flagsOf s

/-! INX (R432) -/

def execInx (s : State) : Result := plain 1 2 (fun s => loadX (s.x + 1) s) s

/-! INY (R433) -/

def execIny (s : State) : Result := plain 1 2 (fun s => loadY (s.y + 1) s) s

/-! DEX (R434) -/

def execDex (s : State) : Result := plain 1 2 (fun s => loadX (s.x - 1) s) s

/-! DEY (R435) -/

def execDey (s : State) : Result := plain 1 2 (fun s => loadY (s.y - 1) s) s

end Sys2Proof.Machine
end

