-- ==== Sys2Proof/Machine/Control.lean ====
section
/-! DEFINITION. Control-transfer instructions (spec 43_control_flow.md R461 to R473):
one meaning per row of the opcode table. A line gives the mode, the base cycles and the `+p` mark of the row beside its
operation. -/

namespace Sys2Proof.Machine

/-! JMP (R461) -/

def execJmpAbs (b1 b2 : Byte) (s : State) : Result := plain 3 3 (fun s => s.setPc (word b2 b1)) s
def execJmpInd (b1 b2 : Byte) (s : State) : Result := plain 3 5 (fun s => let p := read16SamePage (word b2 b1) s; p.2.setPc p.1) s

/-! JSR (R462) -/

def execJsr (b1 b2 : Byte) (s : State) : Result := plain 3 6 (fun t => (push16 (s.pc + 2) t).setPc (word b2 b1)) s

/-! RTS (R463) -/

def execRts (s : State) : Result := plain 1 6 (fun s => let r := pull16 s; r.2.setPc (r.1 + 1)) s

/-! BCC (R465) -/

def execBcc (b1 : Byte) (s : State) : Result := branches (!s.p.c) b1 s

/-! BCS (R466) -/

def execBcs (b1 : Byte) (s : State) : Result := branches s.p.c b1 s

/-! BEQ (R467) -/

def execBeq (b1 : Byte) (s : State) : Result := branches s.p.z b1 s

/-! BNE (R468) -/

def execBne (b1 : Byte) (s : State) : Result := branches (!s.p.z) b1 s

/-! BMI (R469) -/

def execBmi (b1 : Byte) (s : State) : Result := branches s.p.n b1 s

/-! BPL (R470) -/

def execBpl (b1 : Byte) (s : State) : Result := branches (!s.p.n) b1 s

/-! BVC (R471) -/

def execBvc (b1 : Byte) (s : State) : Result := branches (!s.p.v) b1 s

/-! BVS (R472) -/

def execBvs (b1 : Byte) (s : State) : Result := branches s.p.v b1 s

end Sys2Proof.Machine
end

