-- ==== Sys2Proof/Machine/LoadStore.lean ====
section
/-! DEFINITION. Load, store and register-transfer instructions (spec 40_load_store_transfer.md R401 to R412):
one meaning per row of the opcode table. A line gives the mode, the base cycles and the `+p` mark of the row beside its
operation. -/

namespace Sys2Proof.Machine

/-! LDA (R401) -/

def execLdaIzx (b1 : Byte) (s : State) : Result := reads (.izx b1) 6 false loadA s
def execLdaZp (b1 : Byte) (s : State) : Result := reads (.zp b1) 3 false loadA s
def execLdaImm (b1 : Byte) (s : State) : Result := plain 2 2 (loadA b1) s
def execLdaAbs (b1 b2 : Byte) (s : State) : Result := reads (.abs b1 b2) 4 false loadA s
def execLdaIzy (b1 : Byte) (s : State) : Result := reads (.izy b1) 5 true loadA s
def execLdaZpx (b1 : Byte) (s : State) : Result := reads (.zpx b1) 4 false loadA s
def execLdaAby (b1 b2 : Byte) (s : State) : Result := reads (.aby b1 b2) 4 true loadA s
def execLdaAbx (b1 b2 : Byte) (s : State) : Result := reads (.abx b1 b2) 4 true loadA s

/-! LDX (R402) -/

def execLdxImm (b1 : Byte) (s : State) : Result := plain 2 2 (loadX b1) s
def execLdxZp (b1 : Byte) (s : State) : Result := reads (.zp b1) 3 false loadX s
def execLdxAbs (b1 b2 : Byte) (s : State) : Result := reads (.abs b1 b2) 4 false loadX s
def execLdxZpy (b1 : Byte) (s : State) : Result := reads (.zpy b1) 4 false loadX s
def execLdxAby (b1 b2 : Byte) (s : State) : Result := reads (.aby b1 b2) 4 true loadX s

/-! LDY (R403) -/

def execLdyImm (b1 : Byte) (s : State) : Result := plain 2 2 (loadY b1) s
def execLdyZp (b1 : Byte) (s : State) : Result := reads (.zp b1) 3 false loadY s
def execLdyAbs (b1 b2 : Byte) (s : State) : Result := reads (.abs b1 b2) 4 false loadY s
def execLdyZpx (b1 : Byte) (s : State) : Result := reads (.zpx b1) 4 false loadY s
def execLdyAbx (b1 b2 : Byte) (s : State) : Result := reads (.abx b1 b2) 4 true loadY s

/-! STA (R404) -/

def execStaIzx (b1 : Byte) (s : State) : Result := stores (.izx b1) 6 State.a s
def execStaZp (b1 : Byte) (s : State) : Result := stores (.zp b1) 3 State.a s
def execStaAbs (b1 b2 : Byte) (s : State) : Result := stores (.abs b1 b2) 4 State.a s
def execStaIzy (b1 : Byte) (s : State) : Result := stores (.izy b1) 6 State.a s
def execStaZpx (b1 : Byte) (s : State) : Result := stores (.zpx b1) 4 State.a s
def execStaAby (b1 b2 : Byte) (s : State) : Result := stores (.aby b1 b2) 5 State.a s
def execStaAbx (b1 b2 : Byte) (s : State) : Result := stores (.abx b1 b2) 5 State.a s

/-! STX (R405) -/

def execStxZp (b1 : Byte) (s : State) : Result := stores (.zp b1) 3 State.x s
def execStxAbs (b1 b2 : Byte) (s : State) : Result := stores (.abs b1 b2) 4 State.x s
def execStxZpy (b1 : Byte) (s : State) : Result := stores (.zpy b1) 4 State.x s

/-! STY (R406) -/

def execStyZp (b1 : Byte) (s : State) : Result := stores (.zp b1) 3 State.y s
def execStyAbs (b1 b2 : Byte) (s : State) : Result := stores (.abs b1 b2) 4 State.y s
def execStyZpx (b1 : Byte) (s : State) : Result := stores (.zpx b1) 4 State.y s

/-! TAX (R407) -/

def execTax (s : State) : Result := plain 1 2 (fun s => loadX s.a s) s

/-! TAY (R408) -/

def execTay (s : State) : Result := plain 1 2 (fun s => loadY s.a s) s

/-! TXA (R409) -/

def execTxa (s : State) : Result := plain 1 2 (fun s => loadA s.x s) s

/-! TYA (R410) -/

def execTya (s : State) : Result := plain 1 2 (fun s => loadA s.y s) s

/-! TSX (R411) -/

def execTsx (s : State) : Result := plain 1 2 (fun s => loadX s.sp s) s

/-! TXS (R412) -/

def execTxs (s : State) : Result := plain 1 2 (fun s => s.setSp s.x) s

end Sys2Proof.Machine
end

