-- ==== Sys2Proof/Machine/Shift.lean ====
section
/-! DEFINITION. Shift and rotate instructions (spec 42_shift_rotate.md R451 to R454):
one meaning per row of the opcode table. A line gives the mode, the base cycles and the `+p` mark of the row beside its
operation. -/

namespace Sys2Proof.Machine

/-! ASL (R451) -/

def execAslZp (b1 : Byte) (s : State) : Result := modifies (.zp b1) 5 aslByte flagsOf s
def execAslAcc (s : State) : Result := modifiesA 2 aslByte flagsOf s
def execAslAbs (b1 b2 : Byte) (s : State) : Result := modifies (.abs b1 b2) 6 aslByte flagsOf s
def execAslZpx (b1 : Byte) (s : State) : Result := modifies (.zpx b1) 6 aslByte flagsOf s
def execAslAbx (b1 b2 : Byte) (s : State) : Result := modifies (.abx b1 b2) 7 aslByte flagsOf s

/-! LSR (R452) -/

def execLsrZp (b1 : Byte) (s : State) : Result := modifies (.zp b1) 5 lsrByte flagsOf s
def execLsrAcc (s : State) : Result := modifiesA 2 lsrByte flagsOf s
def execLsrAbs (b1 b2 : Byte) (s : State) : Result := modifies (.abs b1 b2) 6 lsrByte flagsOf s
def execLsrZpx (b1 : Byte) (s : State) : Result := modifies (.zpx b1) 6 lsrByte flagsOf s
def execLsrAbx (b1 b2 : Byte) (s : State) : Result := modifies (.abx b1 b2) 7 lsrByte flagsOf s

/-! ROL (R453) -/

def execRolZp (b1 : Byte) (s : State) : Result := modifies (.zp b1) 5 rolByte flagsOf s
def execRolAcc (s : State) : Result := modifiesA 2 rolByte flagsOf s
def execRolAbs (b1 b2 : Byte) (s : State) : Result := modifies (.abs b1 b2) 6 rolByte flagsOf s
def execRolZpx (b1 : Byte) (s : State) : Result := modifies (.zpx b1) 6 rolByte flagsOf s
def execRolAbx (b1 b2 : Byte) (s : State) : Result := modifies (.abx b1 b2) 7 rolByte flagsOf s

/-! ROR (R454) -/

def execRorZp (b1 : Byte) (s : State) : Result := modifies (.zp b1) 5 rorByte flagsOf s
def execRorAcc (s : State) : Result := modifiesA 2 rorByte flagsOf s
def execRorAbs (b1 b2 : Byte) (s : State) : Result := modifies (.abs b1 b2) 6 rorByte flagsOf s
def execRorZpx (b1 : Byte) (s : State) : Result := modifies (.zpx b1) 6 rorByte flagsOf s
def execRorAbx (b1 b2 : Byte) (s : State) : Result := modifies (.abx b1 b2) 7 rorByte flagsOf s

end Sys2Proof.Machine
end

