-- ==== Sys2Proof/Machine/System.lean ====
section
/-! DEFINITION. Stack, flag and system instructions (spec 44_stack_flags_system.md R481 to R496):
one meaning per row of the opcode table. A line gives the mode, the base cycles and the `+p` mark of the row beside its
operation. -/

namespace Sys2Proof.Machine

/-! PHA (R481) -/

def execPha (s : State) : Result := plain 1 3 (fun s => push8 s.a s) s

/-! PHP (R482) -/

def execPhp (s : State) : Result := plain 1 3 (fun s => push8 (s.p.pack true) s) s

/-! PLA (R483) -/

def execPla (s : State) : Result := plain 1 4 (fun s => let r := pull8 s; loadA r.1 r.2) s

/-! PLP (R484) -/

def execPlp (s : State) : Result := plain 1 4 (fun s => let r := pull8 s; r.2.setP (Flags.unpack r.1)) s

/-! CLC (R485) -/

def execClc (s : State) : Result := plain 1 2 (fun s => s.setC false) s

/-! SEC (R486) -/

def execSec (s : State) : Result := plain 1 2 (fun s => s.setC true) s

/-! CLI (R487) -/

def execCli (s : State) : Result := plain 1 2 (fun s => s.setP { s.p with i := false }) s

/-! SEI (R488) -/

def execSei (s : State) : Result := plain 1 2 (fun s => s.setP { s.p with i := true }) s

/-! CLD (R489) -/

def execCld (s : State) : Result := plain 1 2 (fun s => s.setP { s.p with d := false }) s

/-! SED (R490) -/

def execSed (s : State) : Result := plain 1 2 (fun s => s.setP { s.p with d := true }) s

/-! CLV (R491) -/

def execClv (s : State) : Result := plain 1 2 (fun s => s.setP { s.p with v := false }) s

/-! NOP (R492) -/

def execNop (s : State) : Result := plain 1 2 id s

/-! BRK (R495) -/

def execBrk (s : State) : Result := plain 1 7 (fun t => enterInterrupt (s.pc + 2) true true irqVector t) s

/-! RTI (R496) -/

def execRti (s : State) : Result := plain 1 6 returnFromInterrupt s

end Sys2Proof.Machine
end

