-- ==== Sys2Proof/Machine/Unofficial.lean ====
section
/-! DEFINITION. Unofficial opcodes and undecodable bytes (spec 45_unofficial.md R511 to R523):
one meaning per row of the opcode table. A line gives the mode, the base cycles and the `+p` mark of the row beside its
operation. -/

namespace Sys2Proof.Machine

/-! NOP (R511, R512, R513) -/

def execNopZp04 (b1 : Byte) (s : State) : Result := skips (.zp b1) 3 false s
def execNopAbs0C (b1 b2 : Byte) (s : State) : Result := skips (.abs b1 b2) 4 false s
def execNopZpx14 (b1 : Byte) (s : State) : Result := skips (.zpx b1) 4 false s
def execNop1A (s : State) : Result := plain 1 2 id s
def execNopAbx1C (b1 b2 : Byte) (s : State) : Result := skips (.abx b1 b2) 4 true s
def execNopZpx34 (b1 : Byte) (s : State) : Result := skips (.zpx b1) 4 false s
def execNop3A (s : State) : Result := plain 1 2 id s
def execNopAbx3C (b1 b2 : Byte) (s : State) : Result := skips (.abx b1 b2) 4 true s
def execNopZp44 (b1 : Byte) (s : State) : Result := skips (.zp b1) 3 false s
def execNopZpx54 (b1 : Byte) (s : State) : Result := skips (.zpx b1) 4 false s
def execNop5A (s : State) : Result := plain 1 2 id s
def execNopAbx5C (b1 b2 : Byte) (s : State) : Result := skips (.abx b1 b2) 4 true s
def execNopZp64 (b1 : Byte) (s : State) : Result := skips (.zp b1) 3 false s
def execNopZpx74 (b1 : Byte) (s : State) : Result := skips (.zpx b1) 4 false s
def execNop7A (s : State) : Result := plain 1 2 id s
def execNopAbx7C (b1 b2 : Byte) (s : State) : Result := skips (.abx b1 b2) 4 true s
def execNopImm80 (_b1 : Byte) (s : State) : Result := plain 2 2 id s
def execNopImm82 (_b1 : Byte) (s : State) : Result := plain 2 2 id s
def execNopImm89 (_b1 : Byte) (s : State) : Result := plain 2 2 id s
def execNopImmC2 (_b1 : Byte) (s : State) : Result := plain 2 2 id s
def execNopZpxD4 (b1 : Byte) (s : State) : Result := skips (.zpx b1) 4 false s
def execNopDA (s : State) : Result := plain 1 2 id s
def execNopAbxDC (b1 b2 : Byte) (s : State) : Result := skips (.abx b1 b2) 4 true s
def execNopImmE2 (_b1 : Byte) (s : State) : Result := plain 2 2 id s
def execNopZpxF4 (b1 : Byte) (s : State) : Result := skips (.zpx b1) 4 false s
def execNopFA (s : State) : Result := plain 1 2 id s
def execNopAbxFC (b1 b2 : Byte) (s : State) : Result := skips (.abx b1 b2) 4 true s

/-! LAX (R514) -/

def execLaxIzx (b1 : Byte) (s : State) : Result := reads (.izx b1) 6 false loadAX s
def execLaxZp (b1 : Byte) (s : State) : Result := reads (.zp b1) 3 false loadAX s
def execLaxAbs (b1 b2 : Byte) (s : State) : Result := reads (.abs b1 b2) 4 false loadAX s
def execLaxIzy (b1 : Byte) (s : State) : Result := reads (.izy b1) 5 true loadAX s
def execLaxZpy (b1 : Byte) (s : State) : Result := reads (.zpy b1) 4 false loadAX s
def execLaxAby (b1 b2 : Byte) (s : State) : Result := reads (.aby b1 b2) 4 true loadAX s

/-! SAX (R515) -/

def execSaxIzx (b1 : Byte) (s : State) : Result := stores (.izx b1) 6 (fun s => s.a &&& s.x) s
def execSaxZp (b1 : Byte) (s : State) : Result := stores (.zp b1) 3 (fun s => s.a &&& s.x) s
def execSaxAbs (b1 b2 : Byte) (s : State) : Result := stores (.abs b1 b2) 4 (fun s => s.a &&& s.x) s
def execSaxZpy (b1 : Byte) (s : State) : Result := stores (.zpy b1) 4 (fun s => s.a &&& s.x) s

/-! SBC (R516) -/

def execSbcImmEB (b1 : Byte) (s : State) : Result := plain 2 2 (subA b1) s

/-! DCP (R517) -/

def execDcpIzx (b1 : Byte) (s : State) : Result := modifies (.izx b1) 8 decByte compareA s
def execDcpZp (b1 : Byte) (s : State) : Result := modifies (.zp b1) 5 decByte compareA s
def execDcpAbs (b1 b2 : Byte) (s : State) : Result := modifies (.abs b1 b2) 6 decByte compareA s
def execDcpIzy (b1 : Byte) (s : State) : Result := modifies (.izy b1) 8 decByte compareA s
def execDcpZpx (b1 : Byte) (s : State) : Result := modifies (.zpx b1) 6 decByte compareA s
def execDcpAby (b1 b2 : Byte) (s : State) : Result := modifies (.aby b1 b2) 7 decByte compareA s
def execDcpAbx (b1 b2 : Byte) (s : State) : Result := modifies (.abx b1 b2) 7 decByte compareA s

/-! ISC (R518) -/

def execIscIzx (b1 : Byte) (s : State) : Result := modifies (.izx b1) 8 incByte subA s
def execIscZp (b1 : Byte) (s : State) : Result := modifies (.zp b1) 5 incByte subA s
def execIscAbs (b1 b2 : Byte) (s : State) : Result := modifies (.abs b1 b2) 6 incByte subA s
def execIscIzy (b1 : Byte) (s : State) : Result := modifies (.izy b1) 8 incByte subA s
def execIscZpx (b1 : Byte) (s : State) : Result := modifies (.zpx b1) 6 incByte subA s
def execIscAby (b1 b2 : Byte) (s : State) : Result := modifies (.aby b1 b2) 7 incByte subA s
def execIscAbx (b1 b2 : Byte) (s : State) : Result := modifies (.abx b1 b2) 7 incByte subA s

/-! SLO (R519) -/

def execSloIzx (b1 : Byte) (s : State) : Result := modifies (.izx b1) 8 aslByte orA s
def execSloZp (b1 : Byte) (s : State) : Result := modifies (.zp b1) 5 aslByte orA s
def execSloAbs (b1 b2 : Byte) (s : State) : Result := modifies (.abs b1 b2) 6 aslByte orA s
def execSloIzy (b1 : Byte) (s : State) : Result := modifies (.izy b1) 8 aslByte orA s
def execSloZpx (b1 : Byte) (s : State) : Result := modifies (.zpx b1) 6 aslByte orA s
def execSloAby (b1 b2 : Byte) (s : State) : Result := modifies (.aby b1 b2) 7 aslByte orA s
def execSloAbx (b1 b2 : Byte) (s : State) : Result := modifies (.abx b1 b2) 7 aslByte orA s

/-! RLA (R520) -/

def execRlaIzx (b1 : Byte) (s : State) : Result := modifies (.izx b1) 8 rolByte andA s
def execRlaZp (b1 : Byte) (s : State) : Result := modifies (.zp b1) 5 rolByte andA s
def execRlaAbs (b1 b2 : Byte) (s : State) : Result := modifies (.abs b1 b2) 6 rolByte andA s
def execRlaIzy (b1 : Byte) (s : State) : Result := modifies (.izy b1) 8 rolByte andA s
def execRlaZpx (b1 : Byte) (s : State) : Result := modifies (.zpx b1) 6 rolByte andA s
def execRlaAby (b1 b2 : Byte) (s : State) : Result := modifies (.aby b1 b2) 7 rolByte andA s
def execRlaAbx (b1 b2 : Byte) (s : State) : Result := modifies (.abx b1 b2) 7 rolByte andA s

/-! SRE (R521) -/

def execSreIzx (b1 : Byte) (s : State) : Result := modifies (.izx b1) 8 lsrByte xorA s
def execSreZp (b1 : Byte) (s : State) : Result := modifies (.zp b1) 5 lsrByte xorA s
def execSreAbs (b1 b2 : Byte) (s : State) : Result := modifies (.abs b1 b2) 6 lsrByte xorA s
def execSreIzy (b1 : Byte) (s : State) : Result := modifies (.izy b1) 8 lsrByte xorA s
def execSreZpx (b1 : Byte) (s : State) : Result := modifies (.zpx b1) 6 lsrByte xorA s
def execSreAby (b1 b2 : Byte) (s : State) : Result := modifies (.aby b1 b2) 7 lsrByte xorA s
def execSreAbx (b1 b2 : Byte) (s : State) : Result := modifies (.abx b1 b2) 7 lsrByte xorA s

/-! RRA (R522) -/

def execRraIzx (b1 : Byte) (s : State) : Result := modifies (.izx b1) 8 rorByte addA s
def execRraZp (b1 : Byte) (s : State) : Result := modifies (.zp b1) 5 rorByte addA s
def execRraAbs (b1 b2 : Byte) (s : State) : Result := modifies (.abs b1 b2) 6 rorByte addA s
def execRraIzy (b1 : Byte) (s : State) : Result := modifies (.izy b1) 8 rorByte addA s
def execRraZpx (b1 : Byte) (s : State) : Result := modifies (.zpx b1) 6 rorByte addA s
def execRraAby (b1 b2 : Byte) (s : State) : Result := modifies (.aby b1 b2) 7 rorByte addA s
def execRraAbx (b1 b2 : Byte) (s : State) : Result := modifies (.abx b1 b2) 7 rorByte addA s

/-! Undecodable bytes (R523) -/

/-- R523, R802: latch the fault with `pc0` and the byte; nothing else changes (the fetch has set `db`), PC stays. -/
def execUndecodable (op : Byte) (s : State) : Result := .next (raise (.undecodableOpcode s.pc op) s)

end Sys2Proof.Machine
end

