-- ==== Sys2Proof/Machine/Dispatch.lean ====
section
/-! DEFINITION. The dispatch: one arm per instruction, each one direct call of its meaning. -/

namespace Sys2Proof.Machine

def exec (i : Instr) (s : State) : Host.Outcome State Fault Refusal :=
  match i with
  | .undecodable op => Sys2Proof.Machine.execUndecodable op s
  | .brk => Sys2Proof.Machine.execBrk s
  | .oraIzx b1 => Sys2Proof.Machine.execOraIzx b1 s
  | .sloIzx b1 => Sys2Proof.Machine.execSloIzx b1 s
  | .nopZp04 b1 => Sys2Proof.Machine.execNopZp04 b1 s
  | .oraZp b1 => Sys2Proof.Machine.execOraZp b1 s
  | .aslZp b1 => Sys2Proof.Machine.execAslZp b1 s
  | .sloZp b1 => Sys2Proof.Machine.execSloZp b1 s
  | .php => Sys2Proof.Machine.execPhp s
  | .oraImm b1 => Sys2Proof.Machine.execOraImm b1 s
  | .aslAcc => Sys2Proof.Machine.execAslAcc s
  | .nopAbs0C b1 b2 => Sys2Proof.Machine.execNopAbs0C b1 b2 s
  | .oraAbs b1 b2 => Sys2Proof.Machine.execOraAbs b1 b2 s
  | .aslAbs b1 b2 => Sys2Proof.Machine.execAslAbs b1 b2 s
  | .sloAbs b1 b2 => Sys2Proof.Machine.execSloAbs b1 b2 s
  | .bpl b1 => Sys2Proof.Machine.execBpl b1 s
  | .oraIzy b1 => Sys2Proof.Machine.execOraIzy b1 s
  | .sloIzy b1 => Sys2Proof.Machine.execSloIzy b1 s
  | .nopZpx14 b1 => Sys2Proof.Machine.execNopZpx14 b1 s
  | .oraZpx b1 => Sys2Proof.Machine.execOraZpx b1 s
  | .aslZpx b1 => Sys2Proof.Machine.execAslZpx b1 s
  | .sloZpx b1 => Sys2Proof.Machine.execSloZpx b1 s
  | .clc => Sys2Proof.Machine.execClc s
  | .oraAby b1 b2 => Sys2Proof.Machine.execOraAby b1 b2 s
  | .nop1A => Sys2Proof.Machine.execNop1A s
  | .sloAby b1 b2 => Sys2Proof.Machine.execSloAby b1 b2 s
  | .nopAbx1C b1 b2 => Sys2Proof.Machine.execNopAbx1C b1 b2 s
  | .oraAbx b1 b2 => Sys2Proof.Machine.execOraAbx b1 b2 s
  | .aslAbx b1 b2 => Sys2Proof.Machine.execAslAbx b1 b2 s
  | .sloAbx b1 b2 => Sys2Proof.Machine.execSloAbx b1 b2 s
  | .jsr b1 b2 => Sys2Proof.Machine.execJsr b1 b2 s
  | .andIzx b1 => Sys2Proof.Machine.execAndIzx b1 s
  | .rlaIzx b1 => Sys2Proof.Machine.execRlaIzx b1 s
  | .bitZp b1 => Sys2Proof.Machine.execBitZp b1 s
  | .andZp b1 => Sys2Proof.Machine.execAndZp b1 s
  | .rolZp b1 => Sys2Proof.Machine.execRolZp b1 s
  | .rlaZp b1 => Sys2Proof.Machine.execRlaZp b1 s
  | .plp => Sys2Proof.Machine.execPlp s
  | .andImm b1 => Sys2Proof.Machine.execAndImm b1 s
  | .rolAcc => Sys2Proof.Machine.execRolAcc s
  | .bitAbs b1 b2 => Sys2Proof.Machine.execBitAbs b1 b2 s
  | .andAbs b1 b2 => Sys2Proof.Machine.execAndAbs b1 b2 s
  | .rolAbs b1 b2 => Sys2Proof.Machine.execRolAbs b1 b2 s
  | .rlaAbs b1 b2 => Sys2Proof.Machine.execRlaAbs b1 b2 s
  | .bmi b1 => Sys2Proof.Machine.execBmi b1 s
  | .andIzy b1 => Sys2Proof.Machine.execAndIzy b1 s
  | .rlaIzy b1 => Sys2Proof.Machine.execRlaIzy b1 s
  | .nopZpx34 b1 => Sys2Proof.Machine.execNopZpx34 b1 s
  | .andZpx b1 => Sys2Proof.Machine.execAndZpx b1 s
  | .rolZpx b1 => Sys2Proof.Machine.execRolZpx b1 s
  | .rlaZpx b1 => Sys2Proof.Machine.execRlaZpx b1 s
  | .sec => Sys2Proof.Machine.execSec s
  | .andAby b1 b2 => Sys2Proof.Machine.execAndAby b1 b2 s
  | .nop3A => Sys2Proof.Machine.execNop3A s
  | .rlaAby b1 b2 => Sys2Proof.Machine.execRlaAby b1 b2 s
  | .nopAbx3C b1 b2 => Sys2Proof.Machine.execNopAbx3C b1 b2 s
  | .andAbx b1 b2 => Sys2Proof.Machine.execAndAbx b1 b2 s
  | .rolAbx b1 b2 => Sys2Proof.Machine.execRolAbx b1 b2 s
  | .rlaAbx b1 b2 => Sys2Proof.Machine.execRlaAbx b1 b2 s
  | .rti => Sys2Proof.Machine.execRti s
  | .eorIzx b1 => Sys2Proof.Machine.execEorIzx b1 s
  | .sreIzx b1 => Sys2Proof.Machine.execSreIzx b1 s
  | .nopZp44 b1 => Sys2Proof.Machine.execNopZp44 b1 s
  | .eorZp b1 => Sys2Proof.Machine.execEorZp b1 s
  | .lsrZp b1 => Sys2Proof.Machine.execLsrZp b1 s
  | .sreZp b1 => Sys2Proof.Machine.execSreZp b1 s
  | .pha => Sys2Proof.Machine.execPha s
  | .eorImm b1 => Sys2Proof.Machine.execEorImm b1 s
  | .lsrAcc => Sys2Proof.Machine.execLsrAcc s
  | .jmpAbs b1 b2 => Sys2Proof.Machine.execJmpAbs b1 b2 s
  | .eorAbs b1 b2 => Sys2Proof.Machine.execEorAbs b1 b2 s
  | .lsrAbs b1 b2 => Sys2Proof.Machine.execLsrAbs b1 b2 s
  | .sreAbs b1 b2 => Sys2Proof.Machine.execSreAbs b1 b2 s
  | .bvc b1 => Sys2Proof.Machine.execBvc b1 s
  | .eorIzy b1 => Sys2Proof.Machine.execEorIzy b1 s
  | .sreIzy b1 => Sys2Proof.Machine.execSreIzy b1 s
  | .nopZpx54 b1 => Sys2Proof.Machine.execNopZpx54 b1 s
  | .eorZpx b1 => Sys2Proof.Machine.execEorZpx b1 s
  | .lsrZpx b1 => Sys2Proof.Machine.execLsrZpx b1 s
  | .sreZpx b1 => Sys2Proof.Machine.execSreZpx b1 s
  | .cli => Sys2Proof.Machine.execCli s
  | .eorAby b1 b2 => Sys2Proof.Machine.execEorAby b1 b2 s
  | .nop5A => Sys2Proof.Machine.execNop5A s
  | .sreAby b1 b2 => Sys2Proof.Machine.execSreAby b1 b2 s
  | .nopAbx5C b1 b2 => Sys2Proof.Machine.execNopAbx5C b1 b2 s
  | .eorAbx b1 b2 => Sys2Proof.Machine.execEorAbx b1 b2 s
  | .lsrAbx b1 b2 => Sys2Proof.Machine.execLsrAbx b1 b2 s
  | .sreAbx b1 b2 => Sys2Proof.Machine.execSreAbx b1 b2 s
  | .rts => Sys2Proof.Machine.execRts s
  | .adcIzx b1 => Sys2Proof.Machine.execAdcIzx b1 s
  | .rraIzx b1 => Sys2Proof.Machine.execRraIzx b1 s
  | .nopZp64 b1 => Sys2Proof.Machine.execNopZp64 b1 s
  | .adcZp b1 => Sys2Proof.Machine.execAdcZp b1 s
  | .rorZp b1 => Sys2Proof.Machine.execRorZp b1 s
  | .rraZp b1 => Sys2Proof.Machine.execRraZp b1 s
  | .pla => Sys2Proof.Machine.execPla s
  | .adcImm b1 => Sys2Proof.Machine.execAdcImm b1 s
  | .rorAcc => Sys2Proof.Machine.execRorAcc s
  | .jmpInd b1 b2 => Sys2Proof.Machine.execJmpInd b1 b2 s
  | .adcAbs b1 b2 => Sys2Proof.Machine.execAdcAbs b1 b2 s
  | .rorAbs b1 b2 => Sys2Proof.Machine.execRorAbs b1 b2 s
  | .rraAbs b1 b2 => Sys2Proof.Machine.execRraAbs b1 b2 s
  | .bvs b1 => Sys2Proof.Machine.execBvs b1 s
  | .adcIzy b1 => Sys2Proof.Machine.execAdcIzy b1 s
  | .rraIzy b1 => Sys2Proof.Machine.execRraIzy b1 s
  | .nopZpx74 b1 => Sys2Proof.Machine.execNopZpx74 b1 s
  | .adcZpx b1 => Sys2Proof.Machine.execAdcZpx b1 s
  | .rorZpx b1 => Sys2Proof.Machine.execRorZpx b1 s
  | .rraZpx b1 => Sys2Proof.Machine.execRraZpx b1 s
  | .sei => Sys2Proof.Machine.execSei s
  | .adcAby b1 b2 => Sys2Proof.Machine.execAdcAby b1 b2 s
  | .nop7A => Sys2Proof.Machine.execNop7A s
  | .rraAby b1 b2 => Sys2Proof.Machine.execRraAby b1 b2 s
  | .nopAbx7C b1 b2 => Sys2Proof.Machine.execNopAbx7C b1 b2 s
  | .adcAbx b1 b2 => Sys2Proof.Machine.execAdcAbx b1 b2 s
  | .rorAbx b1 b2 => Sys2Proof.Machine.execRorAbx b1 b2 s
  | .rraAbx b1 b2 => Sys2Proof.Machine.execRraAbx b1 b2 s
  | .nopImm80 b1 => Sys2Proof.Machine.execNopImm80 b1 s
  | .staIzx b1 => Sys2Proof.Machine.execStaIzx b1 s
  | .nopImm82 b1 => Sys2Proof.Machine.execNopImm82 b1 s
  | .saxIzx b1 => Sys2Proof.Machine.execSaxIzx b1 s
  | .styZp b1 => Sys2Proof.Machine.execStyZp b1 s
  | .staZp b1 => Sys2Proof.Machine.execStaZp b1 s
  | .stxZp b1 => Sys2Proof.Machine.execStxZp b1 s
  | .saxZp b1 => Sys2Proof.Machine.execSaxZp b1 s
  | .dey => Sys2Proof.Machine.execDey s
  | .nopImm89 b1 => Sys2Proof.Machine.execNopImm89 b1 s
  | .txa => Sys2Proof.Machine.execTxa s
  | .styAbs b1 b2 => Sys2Proof.Machine.execStyAbs b1 b2 s
  | .staAbs b1 b2 => Sys2Proof.Machine.execStaAbs b1 b2 s
  | .stxAbs b1 b2 => Sys2Proof.Machine.execStxAbs b1 b2 s
  | .saxAbs b1 b2 => Sys2Proof.Machine.execSaxAbs b1 b2 s
  | .bcc b1 => Sys2Proof.Machine.execBcc b1 s
  | .staIzy b1 => Sys2Proof.Machine.execStaIzy b1 s
  | .styZpx b1 => Sys2Proof.Machine.execStyZpx b1 s
  | .staZpx b1 => Sys2Proof.Machine.execStaZpx b1 s
  | .stxZpy b1 => Sys2Proof.Machine.execStxZpy b1 s
  | .saxZpy b1 => Sys2Proof.Machine.execSaxZpy b1 s
  | .tya => Sys2Proof.Machine.execTya s
  | .staAby b1 b2 => Sys2Proof.Machine.execStaAby b1 b2 s
  | .txs => Sys2Proof.Machine.execTxs s
  | .staAbx b1 b2 => Sys2Proof.Machine.execStaAbx b1 b2 s
  | .ldyImm b1 => Sys2Proof.Machine.execLdyImm b1 s
  | .ldaIzx b1 => Sys2Proof.Machine.execLdaIzx b1 s
  | .ldxImm b1 => Sys2Proof.Machine.execLdxImm b1 s
  | .laxIzx b1 => Sys2Proof.Machine.execLaxIzx b1 s
  | .ldyZp b1 => Sys2Proof.Machine.execLdyZp b1 s
  | .ldaZp b1 => Sys2Proof.Machine.execLdaZp b1 s
  | .ldxZp b1 => Sys2Proof.Machine.execLdxZp b1 s
  | .laxZp b1 => Sys2Proof.Machine.execLaxZp b1 s
  | .tay => Sys2Proof.Machine.execTay s
  | .ldaImm b1 => Sys2Proof.Machine.execLdaImm b1 s
  | .tax => Sys2Proof.Machine.execTax s
  | .ldyAbs b1 b2 => Sys2Proof.Machine.execLdyAbs b1 b2 s
  | .ldaAbs b1 b2 => Sys2Proof.Machine.execLdaAbs b1 b2 s
  | .ldxAbs b1 b2 => Sys2Proof.Machine.execLdxAbs b1 b2 s
  | .laxAbs b1 b2 => Sys2Proof.Machine.execLaxAbs b1 b2 s
  | .bcs b1 => Sys2Proof.Machine.execBcs b1 s
  | .ldaIzy b1 => Sys2Proof.Machine.execLdaIzy b1 s
  | .laxIzy b1 => Sys2Proof.Machine.execLaxIzy b1 s
  | .ldyZpx b1 => Sys2Proof.Machine.execLdyZpx b1 s
  | .ldaZpx b1 => Sys2Proof.Machine.execLdaZpx b1 s
  | .ldxZpy b1 => Sys2Proof.Machine.execLdxZpy b1 s
  | .laxZpy b1 => Sys2Proof.Machine.execLaxZpy b1 s
  | .clv => Sys2Proof.Machine.execClv s
  | .ldaAby b1 b2 => Sys2Proof.Machine.execLdaAby b1 b2 s
  | .tsx => Sys2Proof.Machine.execTsx s
  | .ldyAbx b1 b2 => Sys2Proof.Machine.execLdyAbx b1 b2 s
  | .ldaAbx b1 b2 => Sys2Proof.Machine.execLdaAbx b1 b2 s
  | .ldxAby b1 b2 => Sys2Proof.Machine.execLdxAby b1 b2 s
  | .laxAby b1 b2 => Sys2Proof.Machine.execLaxAby b1 b2 s
  | .cpyImm b1 => Sys2Proof.Machine.execCpyImm b1 s
  | .cmpIzx b1 => Sys2Proof.Machine.execCmpIzx b1 s
  | .nopImmC2 b1 => Sys2Proof.Machine.execNopImmC2 b1 s
  | .dcpIzx b1 => Sys2Proof.Machine.execDcpIzx b1 s
  | .cpyZp b1 => Sys2Proof.Machine.execCpyZp b1 s
  | .cmpZp b1 => Sys2Proof.Machine.execCmpZp b1 s
  | .decZp b1 => Sys2Proof.Machine.execDecZp b1 s
  | .dcpZp b1 => Sys2Proof.Machine.execDcpZp b1 s
  | .iny => Sys2Proof.Machine.execIny s
  | .cmpImm b1 => Sys2Proof.Machine.execCmpImm b1 s
  | .dex => Sys2Proof.Machine.execDex s
  | .cpyAbs b1 b2 => Sys2Proof.Machine.execCpyAbs b1 b2 s
  | .cmpAbs b1 b2 => Sys2Proof.Machine.execCmpAbs b1 b2 s
  | .decAbs b1 b2 => Sys2Proof.Machine.execDecAbs b1 b2 s
  | .dcpAbs b1 b2 => Sys2Proof.Machine.execDcpAbs b1 b2 s
  | .bne b1 => Sys2Proof.Machine.execBne b1 s
  | .cmpIzy b1 => Sys2Proof.Machine.execCmpIzy b1 s
  | .dcpIzy b1 => Sys2Proof.Machine.execDcpIzy b1 s
  | .nopZpxD4 b1 => Sys2Proof.Machine.execNopZpxD4 b1 s
  | .cmpZpx b1 => Sys2Proof.Machine.execCmpZpx b1 s
  | .decZpx b1 => Sys2Proof.Machine.execDecZpx b1 s
  | .dcpZpx b1 => Sys2Proof.Machine.execDcpZpx b1 s
  | .cld => Sys2Proof.Machine.execCld s
  | .cmpAby b1 b2 => Sys2Proof.Machine.execCmpAby b1 b2 s
  | .nopDA => Sys2Proof.Machine.execNopDA s
  | .dcpAby b1 b2 => Sys2Proof.Machine.execDcpAby b1 b2 s
  | .nopAbxDC b1 b2 => Sys2Proof.Machine.execNopAbxDC b1 b2 s
  | .cmpAbx b1 b2 => Sys2Proof.Machine.execCmpAbx b1 b2 s
  | .decAbx b1 b2 => Sys2Proof.Machine.execDecAbx b1 b2 s
  | .dcpAbx b1 b2 => Sys2Proof.Machine.execDcpAbx b1 b2 s
  | .cpxImm b1 => Sys2Proof.Machine.execCpxImm b1 s
  | .sbcIzx b1 => Sys2Proof.Machine.execSbcIzx b1 s
  | .nopImmE2 b1 => Sys2Proof.Machine.execNopImmE2 b1 s
  | .iscIzx b1 => Sys2Proof.Machine.execIscIzx b1 s
  | .cpxZp b1 => Sys2Proof.Machine.execCpxZp b1 s
  | .sbcZp b1 => Sys2Proof.Machine.execSbcZp b1 s
  | .incZp b1 => Sys2Proof.Machine.execIncZp b1 s
  | .iscZp b1 => Sys2Proof.Machine.execIscZp b1 s
  | .inx => Sys2Proof.Machine.execInx s
  | .sbcImm b1 => Sys2Proof.Machine.execSbcImm b1 s
  | .nop => Sys2Proof.Machine.execNop s
  | .sbcImmEB b1 => Sys2Proof.Machine.execSbcImmEB b1 s
  | .cpxAbs b1 b2 => Sys2Proof.Machine.execCpxAbs b1 b2 s
  | .sbcAbs b1 b2 => Sys2Proof.Machine.execSbcAbs b1 b2 s
  | .incAbs b1 b2 => Sys2Proof.Machine.execIncAbs b1 b2 s
  | .iscAbs b1 b2 => Sys2Proof.Machine.execIscAbs b1 b2 s
  | .beq b1 => Sys2Proof.Machine.execBeq b1 s
  | .sbcIzy b1 => Sys2Proof.Machine.execSbcIzy b1 s
  | .iscIzy b1 => Sys2Proof.Machine.execIscIzy b1 s
  | .nopZpxF4 b1 => Sys2Proof.Machine.execNopZpxF4 b1 s
  | .sbcZpx b1 => Sys2Proof.Machine.execSbcZpx b1 s
  | .incZpx b1 => Sys2Proof.Machine.execIncZpx b1 s
  | .iscZpx b1 => Sys2Proof.Machine.execIscZpx b1 s
  | .sed => Sys2Proof.Machine.execSed s
  | .sbcAby b1 b2 => Sys2Proof.Machine.execSbcAby b1 b2 s
  | .nopFA => Sys2Proof.Machine.execNopFA s
  | .iscAby b1 b2 => Sys2Proof.Machine.execIscAby b1 b2 s
  | .nopAbxFC b1 b2 => Sys2Proof.Machine.execNopAbxFC b1 b2 s
  | .sbcAbx b1 b2 => Sys2Proof.Machine.execSbcAbx b1 b2 s
  | .incAbx b1 b2 => Sys2Proof.Machine.execIncAbx b1 b2 s
  | .iscAbx b1 b2 => Sys2Proof.Machine.execIscAbx b1 b2 s

end Sys2Proof.Machine
end

