-- ==== Sys2Proof/Machine/ApuCycle.lean ====
section
/-! DEFINITION. The audio unit's cycle with the sample reader's bus access (spec 47_apu_synthesizer.md R701, R702, R746,
R748, R760). -/

namespace Sys2Proof.Machine

/-- `DmcFetch()` (R748): a CPU bus read, the stall, and what the byte does to the channel. -/
def dmcFetch (s : State) : State :=
  let r := read8 s.apu.dmc.curAddr s
  let u := r.2.apu
  (r.2.setApu { u with dmc := u.dmc.take r.1, dmcIrq := u.dmcIrq || u.dmc.endsWithIrq }).setCyc
    (r.2.cyc + r.2.params.dmcStall)

/-- `DmcReader()` (R746). -/
def dmcReader (s : State) : State :=
  if !s.apu.dmc.bufferFull && decide (s.apu.dmc.bytesLeft ≠ 0) then dmcFetch s else s

/-- `ApuCycle()` (R702): the timers, the reader, the sample, the count. -/
def apuCycle (s : State) : State :=
  let s1 := dmcReader (s.setApu s.apu.clockTimers)
  let s2 := s1.setSamples (s1.samples ++ [s1.apu.sample])
  s2.setApu { s2.apu with apuCyc := s2.apu.apuCyc + 1 }

/-- `n` APU cycles. -/
def apuCycles : Nat → State → State
  | 0, s => s
  | n + 1, s => apuCycles n (apuCycle s)

/-- `target <- cyc; while apu_cyc < target: ApuCycle()` (R701): the target is fixed before the loop, and each cycle adds
one to `apu_cyc`. -/
def apuCatchUp (s : State) : State := apuCycles (s.cyc - s.apu.apuCyc) s

end Sys2Proof.Machine
end

