-- ==== Sys2Proof/Machine/Arbiter.lean ====
section
/-! DEFINITION. The interrupt-sync arbiter (spec 60_exceptions.md R810 to R816). -/

namespace Sys2Proof.Machine

/-- `irq_line` (R126, R812): the OR of the flags its producers hold. -/
def irqLine (s : State) : Bool := s.apu.frameIrq || s.apu.dmcIrq || mapperIrq s

/-- NMI entry (R811, R814, R815). -/
def nmiEntry (s : State) : State :=
  let s' := enterInterrupt s.pc false s.params.nmiSetsI nmiVector (s.setNmiPending false)
  s'.setCyc (s'.cyc + 7)

/-- IRQ entry (R812, R814, R815). -/
def irqEntry (s : State) : State :=
  let s' := enterInterrupt s.pc false true irqVector s
  s'.setCyc (s'.cyc + 7)

/-- Phase 4 (R813): at most one interrupt, NMI before IRQ. -/
def arbiter (s : State) : State :=
  if s.nmiPending then nmiEntry s
  else if irqLine s && !s.p.i then irqEntry s
  else s

end Sys2Proof.Machine
end

