-- ==== Sys2Proof/Machine/PpuDot.lean ====
section
/-! DEFINITION. The dot machine of the picture unit (spec 46_ppu_rasterizer.md R620 to R660): flags, background pipeline,
sprites, the priority multiplexer, the position, and catching up with the CPU. -/

namespace Sys2Proof.Machine

/-! ## Flags the unit raises on its own (R642, R643) -/

/-- `VblankSet()` (R642). -/
def vblankSet (s : State) : State :=
  if s.ppu.vblSuppress then s.setPpu { s.ppu with vblSuppress := false }
  else (s.setPpu { s.ppu with vblank := true }).setNmiPending (s.nmiPending || s.ppu.nmiEnable)

/-- `FlagsClear()` (R643). -/
def Ppu.flagsClear (p : Ppu) : Ppu := { p with vblank := false, sprite0Hit := false, spriteOverflow := false }

/-! ## Background pipeline (R631 to R636) -/

/-- `ShiftBg()` (R634). -/
def Ppu.shiftBg (p : Ppu) : Ppu :=
  { p with
    bgLo := p.bgLo <<< 1
    bgHi := p.bgHi <<< 1
    atLo := (p.atLo <<< 1) ||| bitAt p.atLatchLo 0
    atHi := (p.atHi <<< 1) ||| bitAt p.atLatchHi 0 }

/-- Reload at phase 7 (R634). -/
def Ppu.reloadBg (p : Ppu) : Ppu :=
  { p with
    bgLo := (p.bgLo &&& 0xFF00) ||| p.ptLo.setWidth 16
    bgHi := (p.bgHi &&& 0xFF00) ||| p.ptHi.setWidth 16
    atLatchLo := p.atBits.getLsbD 0
    atLatchHi := p.atBits.getLsbD 1 }

/-- `IncX()` on `v` (R635). -/
def incX (v : BitVec 15) : BitVec 15 := if v &&& 0x001F = 31 then (v &&& 0x7FE0) ^^^ 0x0400 else v + 1

/-- `IncY()` on `v` (R635). -/
def incY (v : BitVec 15) : BitVec 15 :=
  if v &&& 0x7000 ≠ 0x7000 then v + 0x1000
  else
    let v0 := v &&& 0x0FFF
    let y := (v0 >>> 5) &&& 0x1F
    if y = 29 then (v0 ^^^ 0x0800) &&& 0x7C1F
    else if y = 31 then v0 &&& 0x7C1F
    else (v0 &&& 0x7C1F) ||| ((y + 1) <<< 5)

/-- `CopyHoriz()` (R635). -/
def Ppu.copyHoriz (p : Ppu) : Ppu := { p with v := (p.v &&& 0x7BE0) ||| (p.t &&& 0x041F) }

/-- `CopyVert()` (R635). -/
def Ppu.copyVert (p : Ppu) : Ppu := { p with v := (p.v &&& 0x041F) ||| (p.t &&& 0x7BE0) }

/-- The address of the name fetch (R632). -/
def nameAddr (v : BitVec 15) : PpuAddr := 0x2000 ||| (v.setWidth 14 &&& 0x0FFF)

/-- The address of the attribute fetch (R632). -/
def attrAddr (v : BitVec 15) : PpuAddr :=
  0x23C0 ||| (v.setWidth 14 &&& 0x0C00) ||| ((v >>> 4).setWidth 14 &&& 0x38) ||| ((v >>> 2).setWidth 14 &&& 0x07)

/-- How far the attribute byte is shifted to its quadrant (R632). -/
def attrShift (v : BitVec 15) : Nat := (((v >>> 4) &&& 0x04) ||| (v &&& 0x02)).toNat

/-- The address of the low pattern fetch (R633). -/
def patternAddr (p : Ppu) : PpuAddr := BitVec.ofNat 14 (p.bgBase + 16 * p.ntByte.toNat + p.v.toNat / 0x1000 % 8)

/-- Name fetch (R632). -/
def fetchName (s : State) : State :=
  let r := ppuRead (nameAddr s.ppu.v) s
  r.2.setPpu { r.2.ppu with ntByte := r.1 }

/-- Attribute fetch (R632). -/
def fetchAttr (s : State) : State :=
  let r := ppuRead (attrAddr s.ppu.v) s
  r.2.setPpu { r.2.ppu with atBits := (r.1 >>> attrShift s.ppu.v).setWidth 2 }

/-- Low pattern fetch (R633). -/
def fetchPatternLo (s : State) : State :=
  let r := ppuRead (patternAddr s.ppu) s
  r.2.setPpu { r.2.ppu with ptLo := r.1 }

/-- High pattern fetch (R633). -/
def fetchPatternHi (s : State) : State :=
  let r := ppuRead (patternAddr s.ppu + 8) s
  r.2.setPpu { r.2.ppu with ptHi := r.1 }

/-- `FetchPhase(d)` (R631, R635). -/
def fetchPhase (d : Nat) (s : State) : State :=
  match (d - 1) % 8 with
  | 0 => fetchName s
  | 2 => fetchAttr s
  | 4 => fetchPatternLo s
  | 6 => fetchPatternHi s
  | 7 =>
    let p := s.ppu.reloadBg
    s.setPpu { p with v := if d = 256 then incY (incX p.v) else incX p.v }
  | _ => s

/-- The background pixel at column `px` and its palette (R636): the pixel is forced transparent where the background is
not shown. -/
def Ppu.bgPixel (p : Ppu) (px : Nat) : Nat :=
  if !p.showBg || (decide (px < 8) && !p.bgLeft) then 0
  else 2 * (p.bgHi.getLsbD (15 - p.x.toNat)).toNat + (p.bgLo.getLsbD (15 - p.x.toNat)).toNat

def Ppu.bgPalette (p : Ppu) : Nat :=
  2 * (p.atHi.getLsbD (7 - p.x.toNat)).toNat + (p.atLo.getLsbD (7 - p.x.toNat)).toNat

/-! ## Sprites (R650 to R656) -/

/-- The address of the low plane of row `r` of tile `n` (R651). -/
def spriteAddr (p : Ppu) (n : Byte) (r : Nat) : PpuAddr :=
  BitVec.ofNat 14 <|
    if p.spriteH = 8 then p.sprBase + 16 * n.toNat + r
    else 0x1000 * (n.getLsbD 0).toNat + 16 * ((n &&& 0xFE).toNat + r / 8) + r % 8

/-- What the evaluation loop of R652 carries: the units filled, secondary OAM, and the two flags. -/
structure Evaluation where
  n : Nat
  secOam : Memory
  zero : Bool
  overflow : Bool
deriving DecidableEq, Repr

/-- Descriptor `i` of OAM is copied to slot `n` of secondary OAM (R652). -/
def copyDescriptor (oam : Memory) (i n : Nat) (sec : Memory) : Memory :=
  (((sec.write .secOam (4 * n) (oam.read .oam (4 * i))).write .secOam (4 * n + 1) (oam.read .oam (4 * i + 1))).write
    .secOam (4 * n + 2) (oam.read .oam (4 * i + 2))).write .secOam (4 * n + 3) (oam.read .oam (4 * i + 3))

/-- A sprite whose first byte is `y` is in range on the line after scanline `sl` (R652). -/
def inRange (sl h : Nat) (y : Byte) : Bool := decide (y.toNat ≤ sl) && decide (sl < y.toNat + h)

/-- The loop of R652 over the last `k` sprites: sprites 64 - k to 63. The ninth in range ends it. -/
def evaluate (oam : Memory) (sl h : Nat) : Nat → Evaluation → Evaluation
  | 0, e => e
  | k + 1, e =>
    if inRange sl h (oam.read .oam (4 * (63 - k))) then
      if e.n < 8 then
        evaluate oam sl h k
          { e with
            n := e.n + 1
            secOam := copyDescriptor oam (63 - k) e.n e.secOam
            zero := e.zero || decide (63 - k = 0) }
      else { e with overflow := true }
    else evaluate oam sl h k e

/-- The pattern fetch of unit `k` for the line after scanline `sl` (R653). -/
def fetchSprite (sl k : Nat) (s : State) : State :=
  let sec := s.ppu.secOam
  let y := (sec.read .secOam (4 * k)).toNat
  let n := sec.read .secOam (4 * k + 1)
  let attr := sec.read .secOam (4 * k + 2)
  let r := if attr.getLsbD 7 then s.ppu.spriteH - 1 - (sl - y) else sl - y
  let a := spriteAddr s.ppu n r
  let l := ppuRead a s
  let h := ppuRead (a + 8) l.2
  let flip := fun b => if attr.getLsbD 6 then reverse8 b else b
  h.2.setPpu { h.2.ppu with
    sprites := h.2.ppu.sprites.set k
      { lo := flip l.1, hi := flip h.1, attr := attr, x := sec.read .secOam (4 * k + 3) } }

/-- The fetches of units `count - k` to `count - 1` in unit order (R653). -/
def fetchSprites (sl count : Nat) : Nat → State → State
  | 0, s => s
  | k + 1, s => fetchSprites sl count k (fetchSprite sl (count - (k + 1)) s)

/-- `SpritesForNextLine(s)` (R652, R653). -/
def spritesForNextLine (sl : Nat) (s : State) : State :=
  if sl = 261 then s.setPpu { s.ppu with sprCount := 0, sprZeroOnLine := false }
  else
    let e := evaluate s.ppu.oam sl s.ppu.spriteH 64 { n := 0, secOam := [], zero := false, overflow := false }
    let s' := s.setPpu { s.ppu with
      sprCount := e.n
      sprZeroOnLine := e.zero
      secOam := e.secOam
      spriteOverflow := s.ppu.spriteOverflow || e.overflow }
    fetchSprites sl e.n e.n s'

/-- `pix_k` of a unit at column `px` (R654). -/
def Ppu.spritePixel (p : Ppu) (px : Nat) (u : SpriteUnit) : Nat :=
  if !p.showSpr || (decide (px < 8) && !p.sprLeft) then 0
  else if u.x.toNat ≤ px ∧ px - u.x.toNat ≤ 7 then
    2 * (u.hi.getLsbD (7 - (px - u.x.toNat))).toNat + (u.lo.getLsbD (7 - (px - u.x.toNat))).toNat
  else 0

/-- The units that hold a sprite (R653): the first `spr_count`. -/
def Ppu.activeUnits (p : Ppu) : List SpriteUnit := p.sprites.take p.sprCount

/-- The unit farthest to the left, the first of them where several are (R656). -/
def leftmost : List SpriteUnit → Option SpriteUnit
  | [] => none
  | u :: us =>
    match leftmost us with
    | some w => if w.x.toNat < u.x.toNat then some w else some u
    | none => some u

/-- The winner among the sprites with an opaque pixel at column `px` (R656). -/
def Ppu.winner (order : SpriteOverlapOrder) (p : Ppu) (px : Nat) : Option SpriteUnit :=
  let opaqueUnits := p.activeUnits.filter fun u => p.spritePixel px u ≠ 0
  match order with
  | .oamIndex => opaqueUnits.head?
  | .screenXThenOamIndex => leftmost opaqueUnits

/-- The sprite-zero condition at column `px` (R655). -/
def Ppu.zeroHit (p : Ppu) (px : Nat) : Bool :=
  p.sprZeroOnLine && decide ((p.activeUnits.head?.map (p.spritePixel px)).getD 0 ≠ 0) && decide (p.bgPixel px ≠ 0) &&
    decide (px ≠ 255)

/-! ## The priority multiplexer and the pixel (R657, R658) -/

/-- The palette index for a background pixel, its palette, a sprite pixel and its attributes (R657). -/
def muxIndex (bgpix bgpal sp : Nat) (sa : Byte) : Nat :=
  if sp ≠ 0 ∧ (bgpix = 0 ∨ sa.getLsbD 5 = false) then 0x10 + 4 * (sa &&& 3).toNat + sp
  else if bgpix ≠ 0 then 4 * bgpal + bgpix
  else 0

/-- The palette index of column `px` (R656, R657). -/
def Ppu.pixelIndex (order : SpriteOverlapOrder) (p : Ppu) (px : Nat) : Nat :=
  match p.winner order px with
  | some u => muxIndex (p.bgPixel px) p.bgPalette (p.spritePixel px u) u.attr
  | none => muxIndex (p.bgPixel px) p.bgPalette 0 0

/-- The 9-bit frame buffer entry of column `px` (R658, R659). -/
def Ppu.colour (order : SpriteOverlapOrder) (p : Ppu) (px : Nat) : BitVec 9 :=
  let c := p.palette.read .palette (paletteIndex (p.pixelIndex order px))
  p.emph ++ (if p.grey then c &&& 0x30 else c)

/-- `Pixel(s, px)` (R658). -/
def Ppu.pixel (order : SpriteOverlapOrder) (sl px : Nat) (p : Ppu) : Ppu :=
  { p with
    sprite0Hit := p.sprite0Hit || p.zeroHit px
    framebuffer := p.framebuffer.write .framebuffer (256 * sl + px) (p.colour order px) }

/-! ## One dot (R622, R623, R646) -/

/-- The part of `Dot()` on the lines that fetch (R622). -/
def lineWork (sl d : Nat) (s : State) : State :=
  if s.ppu.rendering then
    let s1 := if (1 ≤ d ∧ d ≤ 256) ∨ (321 ≤ d ∧ d ≤ 336) then fetchPhase d (s.setPpu s.ppu.shiftBg) else s
    let s2 := if d = 257 then spritesForNextLine sl (s1.setPpu s1.ppu.copyHoriz) else s1
    if sl = 261 ∧ 280 ≤ d ∧ d ≤ 304 then s2.setPpu s2.ppu.copyVert else s2
  else if d = 257 then s.setPpu { s.ppu with sprCount := 0, sprZeroOnLine := false }
  else s

/-- The dot the short frame leaves out (R623). -/
def skipsDot (s : State) : Bool :=
  decide (s.ppu.scanline = 261) && decide (s.ppu.dot = 339) && !s.ppu.frameParity &&
    (s.ppu.rendering || !s.params.skipNeedsRendering)

/-- `Advance()` (R623), with `FrameCompleted()` (R660). -/
def advanceDot (s : State) : State :=
  if s.ppu.dot = 340 ∨ skipsDot s then
    let s' :=
      if s.ppu.scanline = 261 then s.setPpu { s.ppu with dot := 0, scanline := 0, frameParity := !s.ppu.frameParity }
      else s.setPpu { s.ppu with dot := 0, scanline := s.ppu.scanline + 1 }
    if s.ppu.scanline = 239 then s'.setFrameCompleted true else s'
  else s.setPpu { s.ppu with dot := s.ppu.dot + 1 }

/-- What the dot `(sl, d)` does before the position moves (R622). -/
def dotWork (sl d : Nat) (s : State) : State :=
  let s1 := if sl = 241 ∧ d = 1 then vblankSet s else s
  let s2 := if sl = 261 ∧ d = 1 then s1.setPpu s1.ppu.flagsClear else s1
  let s3 :=
    if sl ≤ 239 ∧ 1 ≤ d ∧ d ≤ 256 then s2.setPpu (s2.ppu.pixel s2.params.spriteOverlapOrder sl (d - 1)) else s2
  let s4 := if sl ≤ 239 ∨ sl = 261 then lineWork sl d s3 else s3
  if sl ≤ 239 ∧ d = 260 then mapperTick s4 else s4

/-- `Dot()` (R622). -/
def dot (s : State) : State :=
  let s1 := advanceDot (dotWork s.ppu.scanline s.ppu.dot s)
  s1.setPpu { s1.ppu with ppuDots := s1.ppu.ppuDots + 1 }

/-- `n` dots. -/
def dots : Nat → State → State
  | 0, s => s
  | n + 1, s => dots n (dot s)

/-- `while ppu_dots < 3 * cyc: Dot()` (R620, R830): each dot adds one to `ppu_dots` and none changes `cyc`, so the loop
runs exactly the difference. -/
def ppuCatchUp (s : State) : State := dots (3 * s.cyc - s.ppu.ppuDots) s

end Sys2Proof.Machine
end

