-- ==== Sys2Proof/Machine/Phases.lean ====
section
/-! DEFINITION. What the machine step does around its instruction (spec 60_exceptions.md R802, R803, R830): the phases
after it, how a fault ends the step, and the placing of instruction bytes for the host. -/

namespace Sys2Proof.Machine

/-- The outputs of one step stand until the next begins (R830). -/
def clearOutputs (s : State) : State := (s.setFrameCompleted false).setSamples []

/-- A phase that left a fault latched ends the step (R803). After an undecodable byte the state is defined, with the
fault latched (R523, R802). After a bounds fault the spec promises nothing of the state, and none is given (R802). -/
def stopWith (r : Fault) (s : State) : Host.Outcome State Fault Refusal :=
  match r with
  | .undecodableOpcode _ _ => .next s
  | .mapperBounds a => .fault (.mapperBounds a)

/-- Go on with the next phase unless the last one left a fault latched (R803). -/
def unlessFaulted (s : State) (k : State → Host.Outcome State Fault Refusal) : Host.Outcome State Fault Refusal :=
  match s.fault with
  | some r => stopWith r s
  | none => k s

/-- Phases 2 to 4 of R830 after the instruction: the PPU catches up, the APU catches up, the arbiter. -/
def finishStep (s : State) : Host.Outcome State Fault Refusal :=
  unlessFaulted s fun s1 =>
    unlessFaulted (ppuCatchUp s1) fun s2 =>
      unlessFaulted (apuCatchUp s2) fun s3 =>
        unlessFaulted (arbiter s3) .next

/-- Put byte `v` into the memory that answers at CPU address `a`: work RAM, program ROM or program RAM. An address where
no memory answers keeps nothing. -/
def placeByte (a : Addr) (v : Byte) (s : State) : State :=
  match route a with
  | .ram i => s.setRam (s.ram.write .ram i v)
  | .cartridge =>
    match translatePrg s a with
    | some (.prgRom, o) => { s with cart := { s.cart with prg := s.cart.prg.write .prg o v } }
    | some (.prgRam, o) => s.setMapper { s.mapper with prgRam := s.mapper.prgRam.write .prgRam o v }
    | none => s
  | _ => s

/-- Memory answers at an address. -/
def holdsByte (s : State) (a : Addr) : Bool := (memByte s a).isSome

/-- Bytes placed from an address on, which wraps (R108). -/
def placeAt (a : Addr) : List Byte → State → State
  | [], s => s
  | b :: bs, s => placeAt (a + 1) bs (placeByte a b s)

/-- The three bytes an instruction can have placed at PC; where memory does not answer at all three addresses, PC is
first set to address 0, in work RAM (assumption 6). -/
def placeBytes (bs : List Byte) (s : State) : State :=
  let fits := holdsByte s s.pc && holdsByte s (s.pc + 1) && holdsByte s (s.pc + 2)
  let s' := if fits then s else s.setPc 0
  placeAt s'.pc bs s'

end Sys2Proof.Machine
end

