-- ==== Sys2Proof/Machine/Step.lean ====
section
/-! DEFINITION. The machine step (spec 60_exceptions.md R830), and how the host places an instruction where the step
fetches. -/

namespace Sys2Proof.Machine

/-- One machine step (R830), with the button masks that stand in the state: nothing where a fault is latched; else the
fetch, the instruction, and what follows it. The outputs of the step before are taken away first. A fault in the fetch
ends the step there (R803). -/
def step (s : State) : Host.Outcome State Fault Refusal :=
  match s.fault with
  | some r => .fault r
  | none =>
    let f := fetch (clearOutputs s)
    match f.2.fault with
    | some r => .fault r
    | none =>
      match exec f.1 f.2 with
      | .next t => finishStep t
      | .fault r => .fault r
      | .refused r => .refused r

/-- `MachineStep(buttons)` (R830): one step with the button masks the host holds at the ports during it (R10 (4), R235). -/
def machineStep (buttons : Byte × Byte) (s : State) : Host.Outcome State Fault Refusal :=
  step ((s.setButtons0 buttons.1).setButtons1 buttons.2)

/-- The instruction whose bits are the low `nbits` bits of `w`, stored where the step fetches its next instruction
(`placeBytes`, Machine/Phases.lean). -/
def State.withFetchWord (s : State) (nbits w : Nat) : State := placeBytes (tableWordBytes nbits w) s

end Sys2Proof.Machine
end

