-- ==== Sys2Proof/Safety.lean ====
section
/-! DEFINITION. What a safe run is, in the terms the statements use: the cartridge the fixed mapping requires (R247), the
invariant of the state, the CPU's registers as one value, and a run over the host's inputs. -/

namespace Sys2Proof.Machine

/-- Every listed index lies below the size of the memory. -/
def Cells.within {w : Nat} (n : Nat) (m : Cells w) : Bool := m.all fun c => decide (c.1 < n)

/-- A memory of region `r` with `n` cells: canonical, and nothing listed beyond its size. -/
def Cells.sized {w : Nat} (r : Region) (n : Nat) (m : Cells w) : Bool := Cells.wf r m && Cells.within n m

/-- R247: a cartridge of the fixed mapping: one or two program banks, at most one graphics bank, no cartridge RAM. -/
def Cartridge.fixed (c : Cartridge) : Bool :=
  c.mapperId == 0 && (c.prgBanks == 1 || c.prgBanks == 2) && decide (c.chrBanks ≤ 1) && c.prgRamSize == 0

/-- The ranges of the picture unit (R133 to R138, R254): position, sprite units, and memories with their sizes. -/
structure Ppu.Ok (p : Ppu) : Prop where
  scanline : p.scanline ≤ 261
  dot : p.dot ≤ 340
  sprCount : p.sprCount ≤ 8
  sprites : p.sprites.length = 8
  vram : Cells.sized .vram 4096 p.vram = true
  palette : Cells.sized .palette 32 p.palette = true
  oam : Cells.sized .oam 256 p.oam = true
  secOam : Cells.sized .secOam 32 p.secOam = true
  framebuffer : Cells.sized .framebuffer 61440 p.framebuffer = true

/-- The ranges of the audio unit: a disabled channel's length counter is 0 (R705), the noise register is never 0
(R731), the sample reader's counters and address (R143, R748), the sequencer's position (R144, R751). -/
structure Apu.Ok (u : Apu) : Prop where
  pulse1 : u.pulse1.enabled = false → u.pulse1.length = 0
  pulse2 : u.pulse2.enabled = false → u.pulse2.length = 0
  triangle : u.triangle.enabled = false → u.triangle.length = 0
  noise : u.noise.enabled = false → u.noise.length = 0
  lfsr : u.noise.lfsr ≠ 0
  bitsLeft : 1 ≤ u.dmc.bitsLeft.toNat ∧ u.dmc.bitsLeft.toNat ≤ 8
  reader : u.dmc.bytesLeft ≠ 0 → 0x8000 ≤ u.dmc.curAddr.toNat
  sequencer : u.fsCycle < if u.fsMode then 37282 else 29830

/-- The invariant of the machine: canonical memories within their sizes, the ranges of both units, and the two derived
clocks never ahead of the CPU's (R134, R146, R620, R701). -/
structure State.Inv (s : State) : Prop where
  ram : Cells.sized .ram 2048 s.ram = true
  prgRam : Cells.wf .prgRam s.mapper.prgRam = true
  chrRam : Cells.sized .chrRam 8192 s.mapper.chrRam = true
  ppu : s.ppu.Ok
  apu : s.apu.Ok
  dots : s.ppu.ppuDots ≤ 3 * s.cyc
  samples : s.apu.apuCyc ≤ s.cyc

/-- The CPU registers and flags (R101 to R109). -/
structure Cpu where
  a : Byte
  x : Byte
  y : Byte
  sp : Byte
  pc : Addr
  p : Flags
deriving DecidableEq, Repr

/-- The CPU registers of a state. -/
def State.cpu (s : State) : Cpu where
  a := s.a
  x := s.x
  y := s.y
  sp := s.sp
  pc := s.pc
  p := s.p

/-- A run that has not stopped: the state after one step for every pair of button masks the host gives, in that order
(R10 (4), R831), if every one of them answers a next state. -/
def runs : List (Byte × Byte) → State → Option State
  | [], s => some s
  | b :: bs, s =>
    match machineStep b s with
    | .next t => runs bs t
    | .fault _ => none
    | .refused _ => none

/-- A safe run of the machine: a cartridge of the fixed mapping, the invariant, and no fault latched. -/
structure State.Safe (s : State) : Prop where
  cart : s.cart.fixed = true
  inv : s.Inv
  noFault : s.fault = none

end Sys2Proof.Machine
end

