-- ==== Sys2Proof/Certificates/Slice0/Obligations.lean ====
section
/-! DEFINITION. The statements for the provers. `Claims` says once, in the spec's words and not in the meanings' own, what
each shape of instruction does to the CPU, to the clock, to the devices and to memory; a statement fills in one line per
row of the opcode table. -/

namespace Sys2Proof.Claims

open Sys2Proof.Machine

/-! ## Arithmetic on bytes, on numbers -/

/-- `setZN(v)` (R15). -/
def zn (v : Byte) (p : Flags) : Flags := { p with z := decide (v = 0), n := decide (128 ≤ v.toNat) }

def ldA (m : Byte) (c : Cpu) : Cpu := { c with a := m, p := zn m c.p }
def ldX (m : Byte) (c : Cpu) : Cpu := { c with x := m, p := zn m c.p }
def ldY (m : Byte) (c : Cpu) : Cpu := { c with y := m, p := zn m c.p }
def ldAX (m : Byte) (c : Cpu) : Cpu := { c with a := m, x := m, p := zn m c.p }

/-- A number is outside the range of a two's-complement byte. -/
def signedOverflow (i : Int) : Bool := decide (i < -128 ∨ 127 < i)

/-- `ADC` (R421, R436): the unsigned sum gives the byte and the carry, the signed sum the overflow. -/
def adc (m : Byte) (c : Cpu) : Cpu :=
  let sum := c.a.toNat + m.toNat + c.p.c.toNat
  let r := BitVec.ofNat 8 sum
  { c with
    a := r
    p := { zn r c.p with
      c := decide (256 ≤ sum)
      v := signedOverflow (c.a.toInt + m.toInt + c.p.c.toNat) } }

/-- `SBC` (R422, R436): `A - M - (1 - C)`; carry 1 means no borrow. -/
def sbc (m : Byte) (c : Cpu) : Cpu :=
  let borrow : Int := 1 - c.p.c.toNat
  let difference : Int := (c.a.toNat : Int) - m.toNat - borrow
  let r := BitVec.ofInt 8 difference
  { c with
    a := r
    p := { zn r c.p with
      c := decide (0 ≤ difference)
      v := signedOverflow (c.a.toInt - m.toInt - borrow) } }

def logicAnd (m : Byte) (c : Cpu) : Cpu := ldA (c.a &&& m) c
def logicOr (m : Byte) (c : Cpu) : Cpu := ldA (c.a ||| m) c
def logicXor (m : Byte) (c : Cpu) : Cpu := ldA (c.a ^^^ m) c

/-- A compare of register value `r` (R426): V stays. -/
def compareWith (r m : Byte) (c : Cpu) : Cpu :=
  { c with p := { c.p with
      c := decide (m.toNat ≤ r.toNat)
      z := decide (r = m)
      n := decide (128 ≤ (r - m).toNat) } }

def cmp (m : Byte) (c : Cpu) : Cpu := compareWith c.a m c
def cpx (m : Byte) (c : Cpu) : Cpu := compareWith c.x m c
def cpy (m : Byte) (c : Cpu) : Cpu := compareWith c.y m c

/-- `BIT` (R429): N and V from the memory byte. -/
def bitTest (m : Byte) (c : Cpu) : Cpu :=
  { c with p := { c.p with
      z := decide (c.a &&& m = 0)
      n := decide (128 ≤ m.toNat)
      v := decide (64 ≤ m.toNat % 128) } }

/-! The changes of a byte, with the carry in: the byte written, and the carry out where there is one. -/

def inc (m : Byte) (_ : Bool) : Byte × Option Bool := (BitVec.ofNat 8 (m.toNat + 1), none)
def dec (m : Byte) (_ : Bool) : Byte × Option Bool := (BitVec.ofNat 8 (m.toNat + 255), none)
def asl (m : Byte) (_ : Bool) : Byte × Option Bool := (BitVec.ofNat 8 (2 * m.toNat), some (decide (128 ≤ m.toNat)))
def lsr (m : Byte) (_ : Bool) : Byte × Option Bool := (BitVec.ofNat 8 (m.toNat / 2), some (decide (m.toNat % 2 = 1)))
def rol (m : Byte) (c : Bool) : Byte × Option Bool :=
  (BitVec.ofNat 8 (2 * m.toNat + c.toNat), some (decide (128 ≤ m.toNat)))
def ror (m : Byte) (c : Bool) : Byte × Option Bool :=
  (BitVec.ofNat 8 (m.toNat / 2 + 128 * c.toNat), some (decide (m.toNat % 2 = 1)))

/-- The flags with the carry out of a change. -/
def carry (c : Option Bool) (p : Flags) : Flags := { p with c := c.getD p.c }

/-- After a plain change of a byte: Z and N of the byte written. -/
def zeroNeg (r : Byte) (c : Cpu) : Cpu := { c with p := zn r c.p }

/-! ## Addresses -/

/-- Two CPU addresses name one memory cell: they are equal, or both lie in work RAM a multiple of 2048 apart (R203). -/
def SameCell (a b : Addr) : Prop := a = b ∨ (a.toNat < 0x2000 ∧ b.toNat < 0x2000 ∧ a.toNat % 2048 = b.toNat % 2048)

/-- The address of the byte a push writes after `k` other pushes (R106). -/
def pushSlot (s : State) (k : Nat) : Addr := pushAddr (s.setSp (s.sp - BitVec.ofNat 8 k))

/-- The address of the byte a pull reads after `k` other pulls (R106). -/
def pullSlot (s : State) (k : Nat) : Addr := pullAddr (s.setSp (s.sp + BitVec.ofNat 8 k))

/-- The byte a pull reads after `k` other pulls. -/
def pulled (s : State) (k : Nat) : Byte := s.ram.read .ram (pullSlot s k).toNat

/-- The address of the next instruction. -/
def after (word : List Byte) (s : State) : Addr := s.pc + BitVec.ofNat 16 word.length

/-! ## Frames -/

/-- Everything outside the CPU registers and the clock is as in `u`: the latch, RAM, the controllers, the arbiter's latch,
both units, the Mapper, the fault latch, the inputs, the outputs, and what is read-only. -/
def RestOf (u t : State) : Prop :=
  t.db = u.db ∧ t.ram = u.ram ∧ t.joyStrobe = u.joyStrobe ∧ t.joyShift0 = u.joyShift0 ∧ t.joyShift1 = u.joyShift1 ∧
    t.nmiPending = u.nmiPending ∧ t.ppu = u.ppu ∧ t.apu = u.apu ∧ t.mapper = u.mapper ∧ t.fault = u.fault ∧
    t.buttons0 = u.buttons0 ∧ t.buttons1 = u.buttons1 ∧ t.frameCompleted = u.frameCompleted ∧
    t.samples = u.samples ∧ t.cart = u.cart ∧ t.params = u.params

/-- Every byte of memory reads as before. -/
def MemoryKept (s t : State) : Prop := ∀ a, memByte t a = memByte s a

/-- What a store of `v` at `a` does to memory: a cell of work RAM holds `v`; every address that does not name the cell
stored to reads as before (with a Mapper that switches banks, when the store is not one of the cartridge window); with
the fixed mapping a store of the cartridge window changes no byte (R208, R247). -/
def MemoryAfterStore (s t : State) (a : Addr) (v : Byte) : Prop :=
  (a.toNat < 0x2000 → s.ram.rising = true → memByte t a = some v) ∧
    (s.cart.fixed = true ∨ a.toNat < 0x4020 → ∀ b, ¬SameCell b a → memByte t b = memByte s b) ∧
    (s.cart.fixed = true → 0x2000 ≤ a.toNat → MemoryKept s t)

/-! ## Shapes of instruction: the word, the instruction it decodes to, and what the instruction does in every state -/

/-- An instruction on registers only: `eff` of the registers, `cost` cycles, nothing else changes. -/
def Registers (word : List Byte) (i : Instr) (cost : Nat) (eff : Cpu → Cpu) : Prop :=
  decode word = .ok (i, []) ∧ ∀ s : State, ∃ t, exec i s = .next t ∧
    t.cpu = eff { s.cpu with pc := after word s } ∧ t.cyc = s.cyc + cost ∧ RestOf s t ∧ MemoryKept s t

/-- The accumulator form of a change of a byte. -/
def onA (f : Byte → Bool → Byte × Option Bool) (c : Cpu) : Cpu :=
  let w := f c.a c.p.c
  zeroNeg w.1 { c with a := w.1, p := carry w.2 c.p }

/-- An instruction that reads one byte at the address its mode gives: one read, with its side effects; one cycle more on
a page cross where the table marks the row `+p`; memory is unchanged. -/
def Reads (word : List Byte) (i : Instr) (m : Mode) (base : Nat) (plusP : Bool) (eff : Byte → Cpu → Cpu) : Prop :=
  decode word = .ok (i, []) ∧ ∀ s : State, ∃ t, exec i s = .next t ∧
    let r := m.resolve (s.setPc (after word s))
    let v := read8 r.ea r.st
    t.cpu = eff v.1 { s.cpu with pc := after word s } ∧
    t.cyc = s.cyc + base + (if plusP = true ∧ r.crossed = true then 1 else 0) ∧ RestOf v.2 t ∧ MemoryKept s t

/-- An instruction that stores one byte of the registers and reads no operand: one write; sprite DMA adds its cycles. -/
def Stores (word : List Byte) (i : Instr) (m : Mode) (base : Nat) (src : Cpu → Byte) : Prop :=
  decode word = .ok (i, []) ∧ ∀ s : State, ∃ t, exec i s = .next t ∧
    let r := m.resolve (s.setPc (after word s))
    t.cpu = { s.cpu with pc := after word s } ∧
    t.cyc = s.cyc + base + (if r.ea = 0x4014 then 513 + (s.cyc + base) % 2 else 0) ∧
    RestOf (write8 r.ea (src s.cpu) r.st) t ∧ MemoryAfterStore s t r.ea (src s.cpu)

/-- A read-modify-write instruction: one read, `f` of the byte and the carry, one write of the same address; then `eff`
of the byte written on the registers, with the carry out. -/
def Modifies (word : List Byte) (i : Instr) (m : Mode) (base : Nat) (f : Byte → Bool → Byte × Option Bool)
    (eff : Byte → Cpu → Cpu) : Prop :=
  decode word = .ok (i, []) ∧ ∀ s : State, ∃ t, exec i s = .next t ∧
    let r := m.resolve (s.setPc (after word s))
    let v := read8 r.ea r.st
    let w := f v.1 s.p.c
    t.cpu = eff w.1 { s.cpu with pc := after word s, p := carry w.2 s.p } ∧
    t.cyc = s.cyc + base + (if r.ea = 0x4014 then 513 + (s.cyc + base) % 2 else 0) ∧
    RestOf (write8 r.ea w.1 v.2) t ∧ MemoryAfterStore s t r.ea w.1

/-- An instruction that does nothing: PC moves past it and `cost` cycles pass. -/
def Skips (word : List Byte) (i : Instr) (cost : State → Nat) : Prop :=
  decode word = .ok (i, []) ∧ ∀ s : State, ∃ t, exec i s = .next t ∧
    t.cpu = { s.cpu with pc := after word s } ∧ t.cyc = s.cyc + cost s ∧ RestOf s t ∧ MemoryKept s t

/-- A branch (R464): on `taken` the target is the next instruction's address plus the signed displacement, 3 cycles on
the same page and 4 on another; else the next instruction, 2 cycles. -/
def Branch (word : List Byte) (i : Instr) (b1 : Byte) (taken : Flags → Bool) : Prop :=
  decode word = .ok (i, []) ∧ ∀ s : State, ∃ t, exec i s = .next t ∧
    let next := after word s
    let target := BitVec.ofInt 16 (next.toNat + b1.toInt)
    t.cpu = { s.cpu with pc := if taken s.p then target else next } ∧
    t.cyc = s.cyc + 2 +
      (if taken s.p = true then 1 + (if target.toNat / 256 = next.toNat / 256 then 0 else 1) else 0) ∧
    RestOf s t ∧ MemoryKept s t

/-! ## The stack and the status image -/

/-- The byte image of the status register (R110), as a number. -/
def image (p : Flags) (brk : Bool) : Byte :=
  BitVec.ofNat 8 (128 * p.n.toNat + 64 * p.v.toNat + 32 + 16 * brk.toNat + 8 * p.d.toNat + 4 * p.i.toNat +
    2 * p.z.toNat + p.c.toNat)

/-- The flags of a pulled byte (R112). -/
def flags (v : Byte) : Flags where
  n := decide (v.toNat / 128 % 2 = 1)
  v := decide (v.toNat / 64 % 2 = 1)
  d := decide (v.toNat / 8 % 2 = 1)
  i := decide (v.toNat / 4 % 2 = 1)
  z := decide (v.toNat / 2 % 2 = 1)
  c := decide (v.toNat % 2 = 1)

/-- Bytes pushed, first to last (R17, R106): each slot holds its byte, and no other cell changes. -/
def Pushed (s t : State) (bytes : List Byte) : Prop :=
  (s.ram.rising = true → ∀ k, k < bytes.length → memByte t (pushSlot s k) = bytes[k]?) ∧
    ∀ a, (∀ k, k < bytes.length → ¬SameCell a (pushSlot s k)) → memByte t a = memByte s a

/-- What entering an interrupt does (R814): the return address, high byte first, and the status image are pushed; I is set
where `setI` says so; PC comes from the vector by two bus reads. A, X, Y, D and every other flag stay, and outside the
CPU registers, the clock, RAM and `db` nothing changes but what the vector reads do. -/
def Entered (s t : State) (ret : Addr) (brk setI : Bool) (vector : Addr) : Prop :=
  let u : State :=
    { s with
      sp := s.sp - 3
      p := { s.p with i := setI || s.p.i }
      ram := t.ram
      db := image s.p brk }
  let r := read16 vector u
  t.cpu = { u.cpu with pc := r.1 } ∧ RestOf r.2 t ∧ Pushed s t [hi ret, lo ret, image s.p brk]

/-! ## Devices -/

/-- The CPU addresses of PPU port `n` (R204, R605). -/
def PortAt (n : Nat) (a : Addr) : Prop := 0x2000 ≤ a.toNat ∧ a.toNat < 0x4000 ∧ a.toNat % 8 = n

/-- A condition as a number. -/
abbrev num (c : Bool) : Nat := c.toNat

/-- Bus reads of `n` bytes from an address on, one after the other, at addresses that wrap (R302 (1) and (3), R108, R316):
the bytes, and the state after. -/
def readBytes (a : Addr) : Nat → State → List Byte × State
  | 0, s => ([], s)
  | n + 1, s =>
    let r := read8 a s
    let rest := readBytes (a + 1) n r.2
    (r.1 :: rest.1, rest.2)

/-- The addressing mode of the byte an instruction stores: the store and the read-modify-write rows of the opcode table. No
other row stores but on the stack. -/
def storeMode : Instr → Option Mode
  | .sloIzx b1 => some (.izx b1)
  | .aslZp b1 => some (.zp b1)
  | .sloZp b1 => some (.zp b1)
  | .aslAbs b1 b2 => some (.abs b1 b2)
  | .sloAbs b1 b2 => some (.abs b1 b2)
  | .sloIzy b1 => some (.izy b1)
  | .aslZpx b1 => some (.zpx b1)
  | .sloZpx b1 => some (.zpx b1)
  | .sloAby b1 b2 => some (.aby b1 b2)
  | .aslAbx b1 b2 => some (.abx b1 b2)
  | .sloAbx b1 b2 => some (.abx b1 b2)
  | .rlaIzx b1 => some (.izx b1)
  | .rolZp b1 => some (.zp b1)
  | .rlaZp b1 => some (.zp b1)
  | .rolAbs b1 b2 => some (.abs b1 b2)
  | .rlaAbs b1 b2 => some (.abs b1 b2)
  | .rlaIzy b1 => some (.izy b1)
  | .rolZpx b1 => some (.zpx b1)
  | .rlaZpx b1 => some (.zpx b1)
  | .rlaAby b1 b2 => some (.aby b1 b2)
  | .rolAbx b1 b2 => some (.abx b1 b2)
  | .rlaAbx b1 b2 => some (.abx b1 b2)
  | .sreIzx b1 => some (.izx b1)
  | .lsrZp b1 => some (.zp b1)
  | .sreZp b1 => some (.zp b1)
  | .lsrAbs b1 b2 => some (.abs b1 b2)
  | .sreAbs b1 b2 => some (.abs b1 b2)
  | .sreIzy b1 => some (.izy b1)
  | .lsrZpx b1 => some (.zpx b1)
  | .sreZpx b1 => some (.zpx b1)
  | .sreAby b1 b2 => some (.aby b1 b2)
  | .lsrAbx b1 b2 => some (.abx b1 b2)
  | .sreAbx b1 b2 => some (.abx b1 b2)
  | .rraIzx b1 => some (.izx b1)
  | .rorZp b1 => some (.zp b1)
  | .rraZp b1 => some (.zp b1)
  | .rorAbs b1 b2 => some (.abs b1 b2)
  | .rraAbs b1 b2 => some (.abs b1 b2)
  | .rraIzy b1 => some (.izy b1)
  | .rorZpx b1 => some (.zpx b1)
  | .rraZpx b1 => some (.zpx b1)
  | .rraAby b1 b2 => some (.aby b1 b2)
  | .rorAbx b1 b2 => some (.abx b1 b2)
  | .rraAbx b1 b2 => some (.abx b1 b2)
  | .staIzx b1 => some (.izx b1)
  | .saxIzx b1 => some (.izx b1)
  | .styZp b1 => some (.zp b1)
  | .staZp b1 => some (.zp b1)
  | .stxZp b1 => some (.zp b1)
  | .saxZp b1 => some (.zp b1)
  | .styAbs b1 b2 => some (.abs b1 b2)
  | .staAbs b1 b2 => some (.abs b1 b2)
  | .stxAbs b1 b2 => some (.abs b1 b2)
  | .saxAbs b1 b2 => some (.abs b1 b2)
  | .staIzy b1 => some (.izy b1)
  | .styZpx b1 => some (.zpx b1)
  | .staZpx b1 => some (.zpx b1)
  | .stxZpy b1 => some (.zpy b1)
  | .saxZpy b1 => some (.zpy b1)
  | .staAby b1 b2 => some (.aby b1 b2)
  | .staAbx b1 b2 => some (.abx b1 b2)
  | .dcpIzx b1 => some (.izx b1)
  | .decZp b1 => some (.zp b1)
  | .dcpZp b1 => some (.zp b1)
  | .decAbs b1 b2 => some (.abs b1 b2)
  | .dcpAbs b1 b2 => some (.abs b1 b2)
  | .dcpIzy b1 => some (.izy b1)
  | .decZpx b1 => some (.zpx b1)
  | .dcpZpx b1 => some (.zpx b1)
  | .dcpAby b1 b2 => some (.aby b1 b2)
  | .decAbx b1 b2 => some (.abx b1 b2)
  | .dcpAbx b1 b2 => some (.abx b1 b2)
  | .iscIzx b1 => some (.izx b1)
  | .incZp b1 => some (.zp b1)
  | .iscZp b1 => some (.zp b1)
  | .incAbs b1 b2 => some (.abs b1 b2)
  | .iscAbs b1 b2 => some (.abs b1 b2)
  | .iscIzy b1 => some (.izy b1)
  | .incZpx b1 => some (.zpx b1)
  | .iscZpx b1 => some (.zpx b1)
  | .iscAby b1 b2 => some (.aby b1 b2)
  | .incAbx b1 b2 => some (.abx b1 b2)
  | .iscAbx b1 b2 => some (.abx b1 b2)
  | _ => none

/-- `n` reads of one address. -/
def readTimes (a : Addr) : Nat → State → State
  | 0, s => s
  | n + 1, s => readTimes a n (read8 a s).2

/-- `n` cycles of the frame sequencer. -/
def sequencerSteps : Nat → Apu → Apu
  | 0, u => u
  | n + 1, u => sequencerSteps n u.sequencerStep

end Sys2Proof.Claims

section

open Sys2Proof Sys2Proof.Machine Sys2Proof.Claims

/-- LDA, LDX, LDY and LAX load one byte and set Z and N. Formalises R401, R402, R403, R514. -/
def Obligations.LoadsReadOneByte : Prop :=
  ∀ b1 b2 : Byte,
    Reads [0xA1, b1] (.ldaIzx b1) (.izx b1) 6 false ldA ∧
    Reads [0xA5, b1] (.ldaZp b1) (.zp b1) 3 false ldA ∧
    Registers [0xA9, b1] (.ldaImm b1) 2 (ldA b1) ∧
    Reads [0xAD, b1, b2] (.ldaAbs b1 b2) (.abs b1 b2) 4 false ldA ∧
    Reads [0xB1, b1] (.ldaIzy b1) (.izy b1) 5 true ldA ∧
    Reads [0xB5, b1] (.ldaZpx b1) (.zpx b1) 4 false ldA ∧
    Reads [0xB9, b1, b2] (.ldaAby b1 b2) (.aby b1 b2) 4 true ldA ∧
    Reads [0xBD, b1, b2] (.ldaAbx b1 b2) (.abx b1 b2) 4 true ldA ∧
    Registers [0xA2, b1] (.ldxImm b1) 2 (ldX b1) ∧
    Reads [0xA6, b1] (.ldxZp b1) (.zp b1) 3 false ldX ∧
    Reads [0xAE, b1, b2] (.ldxAbs b1 b2) (.abs b1 b2) 4 false ldX ∧
    Reads [0xB6, b1] (.ldxZpy b1) (.zpy b1) 4 false ldX ∧
    Reads [0xBE, b1, b2] (.ldxAby b1 b2) (.aby b1 b2) 4 true ldX ∧
    Registers [0xA0, b1] (.ldyImm b1) 2 (ldY b1) ∧
    Reads [0xA4, b1] (.ldyZp b1) (.zp b1) 3 false ldY ∧
    Reads [0xAC, b1, b2] (.ldyAbs b1 b2) (.abs b1 b2) 4 false ldY ∧
    Reads [0xB4, b1] (.ldyZpx b1) (.zpx b1) 4 false ldY ∧
    Reads [0xBC, b1, b2] (.ldyAbx b1 b2) (.abx b1 b2) 4 true ldY ∧
    Reads [0xA3, b1] (.laxIzx b1) (.izx b1) 6 false ldAX ∧
    Reads [0xA7, b1] (.laxZp b1) (.zp b1) 3 false ldAX ∧
    Reads [0xAF, b1, b2] (.laxAbs b1 b2) (.abs b1 b2) 4 false ldAX ∧
    Reads [0xB3, b1] (.laxIzy b1) (.izy b1) 5 true ldAX ∧
    Reads [0xB7, b1] (.laxZpy b1) (.zpy b1) 4 false ldAX ∧
    Reads [0xBF, b1, b2] (.laxAby b1 b2) (.aby b1 b2) 4 true ldAX

/-- STA, STX, STY and SAX write one register byte and change no register or flag. Formalises R404, R405, R406, R515.
-/
def Obligations.StoresWriteOneByte : Prop :=
  ∀ b1 b2 : Byte,
    Stores [0x81, b1] (.staIzx b1) (.izx b1) 6 Cpu.a ∧
    Stores [0x85, b1] (.staZp b1) (.zp b1) 3 Cpu.a ∧
    Stores [0x8D, b1, b2] (.staAbs b1 b2) (.abs b1 b2) 4 Cpu.a ∧
    Stores [0x91, b1] (.staIzy b1) (.izy b1) 6 Cpu.a ∧
    Stores [0x95, b1] (.staZpx b1) (.zpx b1) 4 Cpu.a ∧
    Stores [0x99, b1, b2] (.staAby b1 b2) (.aby b1 b2) 5 Cpu.a ∧
    Stores [0x9D, b1, b2] (.staAbx b1 b2) (.abx b1 b2) 5 Cpu.a ∧
    Stores [0x86, b1] (.stxZp b1) (.zp b1) 3 Cpu.x ∧
    Stores [0x8E, b1, b2] (.stxAbs b1 b2) (.abs b1 b2) 4 Cpu.x ∧
    Stores [0x96, b1] (.stxZpy b1) (.zpy b1) 4 Cpu.x ∧
    Stores [0x84, b1] (.styZp b1) (.zp b1) 3 Cpu.y ∧
    Stores [0x8C, b1, b2] (.styAbs b1 b2) (.abs b1 b2) 4 Cpu.y ∧
    Stores [0x94, b1] (.styZpx b1) (.zpx b1) 4 Cpu.y ∧
    Stores [0x83, b1] (.saxIzx b1) (.izx b1) 6 (fun c => c.a &&& c.x) ∧
    Stores [0x87, b1] (.saxZp b1) (.zp b1) 3 (fun c => c.a &&& c.x) ∧
    Stores [0x8F, b1, b2] (.saxAbs b1 b2) (.abs b1 b2) 4 (fun c => c.a &&& c.x) ∧
    Stores [0x97, b1] (.saxZpy b1) (.zpy b1) 4 (fun c => c.a &&& c.x)

/-- TAX, TAY, TXA, TYA, TSX and TXS copy one register. Formalises R407, R408, R409, R410, R411, R412. -/
def Obligations.TransfersCopyOneRegister : Prop :=
    Registers [0xAA] .tax 2 (fun c => ldX c.a c) ∧
    Registers [0xA8] .tay 2 (fun c => ldY c.a c) ∧
    Registers [0x8A] .txa 2 (fun c => ldA c.x c) ∧
    Registers [0x98] .tya 2 (fun c => ldA c.y c) ∧
    Registers [0xBA] .tsx 2 (fun c => ldX c.sp c) ∧
    Registers [0x9A] .txs 2 (fun c => { c with sp := c.x })

/-- ADC: the byte and the carry are those of the unsigned sum, V is the signed overflow. Formalises R421. -/
def Obligations.AddWithCarryIsTheSum : Prop :=
  ∀ b1 b2 : Byte,
    Reads [0x61, b1] (.adcIzx b1) (.izx b1) 6 false adc ∧
    Reads [0x65, b1] (.adcZp b1) (.zp b1) 3 false adc ∧
    Registers [0x69, b1] (.adcImm b1) 2 (adc b1) ∧
    Reads [0x6D, b1, b2] (.adcAbs b1 b2) (.abs b1 b2) 4 false adc ∧
    Reads [0x71, b1] (.adcIzy b1) (.izy b1) 5 true adc ∧
    Reads [0x75, b1] (.adcZpx b1) (.zpx b1) 4 false adc ∧
    Reads [0x79, b1, b2] (.adcAby b1 b2) (.aby b1 b2) 4 true adc ∧
    Reads [0x7D, b1, b2] (.adcAbx b1 b2) (.abx b1 b2) 4 true adc

/-- SBC: A - M - (1 - C), C set for no borrow, V the signed overflow. Formalises R422, R516. -/
def Obligations.SubtractWithBorrowIsTheDifference : Prop :=
  ∀ b1 b2 : Byte,
    Reads [0xE1, b1] (.sbcIzx b1) (.izx b1) 6 false sbc ∧
    Reads [0xE5, b1] (.sbcZp b1) (.zp b1) 3 false sbc ∧
    Registers [0xE9, b1] (.sbcImm b1) 2 (sbc b1) ∧
    Registers [0xEB, b1] (.sbcImmEB b1) 2 (sbc b1) ∧
    Reads [0xED, b1, b2] (.sbcAbs b1 b2) (.abs b1 b2) 4 false sbc ∧
    Reads [0xF1, b1] (.sbcIzy b1) (.izy b1) 5 true sbc ∧
    Reads [0xF5, b1] (.sbcZpx b1) (.zpx b1) 4 false sbc ∧
    Reads [0xF9, b1, b2] (.sbcAby b1 b2) (.aby b1 b2) 4 true sbc ∧
    Reads [0xFD, b1, b2] (.sbcAbx b1 b2) (.abx b1 b2) 4 true sbc

/-- AND, ORA and EOR combine the operand with A; CMP, CPX and CPY compare, BIT tests, and no register changes.
Formalises R423, R424, R425, R426, R427, R428, R429. -/
def Obligations.LogicAndCompareInstructions : Prop :=
  (∀ b1 b2 : Byte,
    Reads [0x21, b1] (.andIzx b1) (.izx b1) 6 false logicAnd ∧
    Reads [0x25, b1] (.andZp b1) (.zp b1) 3 false logicAnd ∧
    Registers [0x29, b1] (.andImm b1) 2 (logicAnd b1) ∧
    Reads [0x2D, b1, b2] (.andAbs b1 b2) (.abs b1 b2) 4 false logicAnd ∧
    Reads [0x31, b1] (.andIzy b1) (.izy b1) 5 true logicAnd ∧
    Reads [0x35, b1] (.andZpx b1) (.zpx b1) 4 false logicAnd ∧
    Reads [0x39, b1, b2] (.andAby b1 b2) (.aby b1 b2) 4 true logicAnd ∧
    Reads [0x3D, b1, b2] (.andAbx b1 b2) (.abx b1 b2) 4 true logicAnd ∧
    Reads [0x01, b1] (.oraIzx b1) (.izx b1) 6 false logicOr ∧
    Reads [0x05, b1] (.oraZp b1) (.zp b1) 3 false logicOr ∧
    Registers [0x09, b1] (.oraImm b1) 2 (logicOr b1) ∧
    Reads [0x0D, b1, b2] (.oraAbs b1 b2) (.abs b1 b2) 4 false logicOr ∧
    Reads [0x11, b1] (.oraIzy b1) (.izy b1) 5 true logicOr ∧
    Reads [0x15, b1] (.oraZpx b1) (.zpx b1) 4 false logicOr ∧
    Reads [0x19, b1, b2] (.oraAby b1 b2) (.aby b1 b2) 4 true logicOr ∧
    Reads [0x1D, b1, b2] (.oraAbx b1 b2) (.abx b1 b2) 4 true logicOr ∧
    Reads [0x41, b1] (.eorIzx b1) (.izx b1) 6 false logicXor ∧
    Reads [0x45, b1] (.eorZp b1) (.zp b1) 3 false logicXor ∧
    Registers [0x49, b1] (.eorImm b1) 2 (logicXor b1) ∧
    Reads [0x4D, b1, b2] (.eorAbs b1 b2) (.abs b1 b2) 4 false logicXor ∧
    Reads [0x51, b1] (.eorIzy b1) (.izy b1) 5 true logicXor ∧
    Reads [0x55, b1] (.eorZpx b1) (.zpx b1) 4 false logicXor ∧
    Reads [0x59, b1, b2] (.eorAby b1 b2) (.aby b1 b2) 4 true logicXor ∧
    Reads [0x5D, b1, b2] (.eorAbx b1 b2) (.abx b1 b2) 4 true logicXor) ∧
  (∀ b1 b2 : Byte,
    Reads [0xC1, b1] (.cmpIzx b1) (.izx b1) 6 false cmp ∧
    Reads [0xC5, b1] (.cmpZp b1) (.zp b1) 3 false cmp ∧
    Registers [0xC9, b1] (.cmpImm b1) 2 (cmp b1) ∧
    Reads [0xCD, b1, b2] (.cmpAbs b1 b2) (.abs b1 b2) 4 false cmp ∧
    Reads [0xD1, b1] (.cmpIzy b1) (.izy b1) 5 true cmp ∧
    Reads [0xD5, b1] (.cmpZpx b1) (.zpx b1) 4 false cmp ∧
    Reads [0xD9, b1, b2] (.cmpAby b1 b2) (.aby b1 b2) 4 true cmp ∧
    Reads [0xDD, b1, b2] (.cmpAbx b1 b2) (.abx b1 b2) 4 true cmp ∧
    Registers [0xE0, b1] (.cpxImm b1) 2 (cpx b1) ∧
    Reads [0xE4, b1] (.cpxZp b1) (.zp b1) 3 false cpx ∧
    Reads [0xEC, b1, b2] (.cpxAbs b1 b2) (.abs b1 b2) 4 false cpx ∧
    Registers [0xC0, b1] (.cpyImm b1) 2 (cpy b1) ∧
    Reads [0xC4, b1] (.cpyZp b1) (.zp b1) 3 false cpy ∧
    Reads [0xCC, b1, b2] (.cpyAbs b1 b2) (.abs b1 b2) 4 false cpy ∧
    Reads [0x24, b1] (.bitZp b1) (.zp b1) 3 false bitTest ∧
    Reads [0x2C, b1, b2] (.bitAbs b1 b2) (.abs b1 b2) 4 false bitTest)

/-- INC and DEC step a memory byte, INX, INY, DEX and DEY an index register, modulo 256; Z and N only. Formalises
R430, R431, R432, R433, R434, R435. -/
def Obligations.IncrementsWrap : Prop :=
  (∀ b1 b2 : Byte,
    Modifies [0xE6, b1] (.incZp b1) (.zp b1) 5 inc zeroNeg ∧
    Modifies [0xEE, b1, b2] (.incAbs b1 b2) (.abs b1 b2) 6 inc zeroNeg ∧
    Modifies [0xF6, b1] (.incZpx b1) (.zpx b1) 6 inc zeroNeg ∧
    Modifies [0xFE, b1, b2] (.incAbx b1 b2) (.abx b1 b2) 7 inc zeroNeg ∧
    Modifies [0xC6, b1] (.decZp b1) (.zp b1) 5 dec zeroNeg ∧
    Modifies [0xCE, b1, b2] (.decAbs b1 b2) (.abs b1 b2) 6 dec zeroNeg ∧
    Modifies [0xD6, b1] (.decZpx b1) (.zpx b1) 6 dec zeroNeg ∧
    Modifies [0xDE, b1, b2] (.decAbx b1 b2) (.abx b1 b2) 7 dec zeroNeg) ∧
  (Registers [0xE8] .inx 2 (fun c => ldX (BitVec.ofNat 8 (c.x.toNat + 1)) c) ∧
    Registers [0xC8] .iny 2 (fun c => ldY (BitVec.ofNat 8 (c.y.toNat + 1)) c) ∧
    Registers [0xCA] .dex 2 (fun c => ldX (BitVec.ofNat 8 (c.x.toNat + 255)) c) ∧
    Registers [0x88] .dey 2 (fun c => ldY (BitVec.ofNat 8 (c.y.toNat + 255)) c))

/-- ASL, LSR, ROL and ROR shift by one, of A or of memory; the bit that leaves goes to C. Formalises R451, R452, R453,
R454. -/
def Obligations.ShiftsMoveOneBitThroughCarry : Prop :=
  ∀ b1 b2 : Byte,
    Modifies [0x06, b1] (.aslZp b1) (.zp b1) 5 asl zeroNeg ∧
    Registers [0x0A] .aslAcc 2 (onA asl) ∧
    Modifies [0x0E, b1, b2] (.aslAbs b1 b2) (.abs b1 b2) 6 asl zeroNeg ∧
    Modifies [0x16, b1] (.aslZpx b1) (.zpx b1) 6 asl zeroNeg ∧
    Modifies [0x1E, b1, b2] (.aslAbx b1 b2) (.abx b1 b2) 7 asl zeroNeg ∧
    Modifies [0x46, b1] (.lsrZp b1) (.zp b1) 5 lsr zeroNeg ∧
    Registers [0x4A] .lsrAcc 2 (onA lsr) ∧
    Modifies [0x4E, b1, b2] (.lsrAbs b1 b2) (.abs b1 b2) 6 lsr zeroNeg ∧
    Modifies [0x56, b1] (.lsrZpx b1) (.zpx b1) 6 lsr zeroNeg ∧
    Modifies [0x5E, b1, b2] (.lsrAbx b1 b2) (.abx b1 b2) 7 lsr zeroNeg ∧
    Modifies [0x26, b1] (.rolZp b1) (.zp b1) 5 rol zeroNeg ∧
    Registers [0x2A] .rolAcc 2 (onA rol) ∧
    Modifies [0x2E, b1, b2] (.rolAbs b1 b2) (.abs b1 b2) 6 rol zeroNeg ∧
    Modifies [0x36, b1] (.rolZpx b1) (.zpx b1) 6 rol zeroNeg ∧
    Modifies [0x3E, b1, b2] (.rolAbx b1 b2) (.abx b1 b2) 7 rol zeroNeg ∧
    Modifies [0x66, b1] (.rorZp b1) (.zp b1) 5 ror zeroNeg ∧
    Registers [0x6A] .rorAcc 2 (onA ror) ∧
    Modifies [0x6E, b1, b2] (.rorAbs b1 b2) (.abs b1 b2) 6 ror zeroNeg ∧
    Modifies [0x76, b1] (.rorZpx b1) (.zpx b1) 6 ror zeroNeg ∧
    Modifies [0x7E, b1, b2] (.rorAbx b1 b2) (.abx b1 b2) 7 ror zeroNeg

/-- JMP loads PC; JSR pushes the address of its last byte and jumps; RTS pulls it and adds one. Formalises R461, R308,
R462, R463. -/
def Obligations.JumpsCallsAndReturns : Prop :=
  (∀ b1 b2 : Byte,
    Registers [0x4C, b1, b2] (.jmpAbs b1 b2) 3 (fun c => { c with pc := BitVec.ofNat 16 (256 * b2.toNat + b1.toNat) }) ∧
    decode [0x6C, b1, b2] = .ok (.jmpInd b1 b2, []) ∧
    ∀ s : State, ∃ t, exec (.jmpInd b1 b2) s = .next t ∧
      let l := read8 (BitVec.ofNat 16 (256 * b2.toNat + b1.toNat)) (s.setPc (s.pc + 3))
      let h := read8 (BitVec.ofNat 16 (256 * b2.toNat + (b1.toNat + 1) % 256)) l.2
      t.cpu = { s.cpu with pc := BitVec.ofNat 16 (256 * h.1.toNat + l.1.toNat) } ∧ t.cyc = s.cyc + 5 ∧ RestOf h.2 t ∧
      MemoryKept s t) ∧
  ((∀ b1 b2 : Byte, decode [0x20, b1, b2] = .ok (.jsr b1 b2, []) ∧ ∀ s : State, ∃ t, exec (.jsr b1 b2) s = .next t ∧
      t.cpu = { s.cpu with pc := BitVec.ofNat 16 (256 * b2.toNat + b1.toNat), sp := s.sp - 2 } ∧ t.cyc = s.cyc + 6 ∧
      Pushed s t [hi (s.pc + 2), lo (s.pc + 2)] ∧ RestOf { s with ram := t.ram, db := lo (s.pc + 2) } t) ∧
    decode [0x60] = .ok (.rts, []) ∧
    ∀ s : State, ∃ t, exec .rts s = .next t ∧
      t.cpu = { s.cpu with
        pc := BitVec.ofNat 16 (256 * (pulled s 1).toNat + (pulled s 0).toNat + 1)
        sp := s.sp + 2 } ∧
      t.cyc = s.cyc + 6 ∧ RestOf (s.setDb (pulled s 1)) t ∧ MemoryKept s t)

/-- The eight branches: condition, target and cost. Formalises R464, R465, R466, R467, R468, R469, R470, R471, R472.
-/
def Obligations.BranchesFollowTheirFlag : Prop :=
  ∀ b1 : Byte,
    Branch [0x90, b1] (.bcc b1) b1 (fun p => !p.c) ∧
    Branch [0xB0, b1] (.bcs b1) b1 (fun p => p.c) ∧
    Branch [0xF0, b1] (.beq b1) b1 (fun p => p.z) ∧
    Branch [0xD0, b1] (.bne b1) b1 (fun p => !p.z) ∧
    Branch [0x30, b1] (.bmi b1) b1 (fun p => p.n) ∧
    Branch [0x10, b1] (.bpl b1) b1 (fun p => !p.n) ∧
    Branch [0x50, b1] (.bvc b1) b1 (fun p => !p.v) ∧
    Branch [0x70, b1] (.bvs b1) b1 (fun p => p.v)

/-- PHA, PHP, PLA and PLP move A or the status image to and from the stack. Formalises R481, R482, R483, R484. -/
def Obligations.PushAndPullInstructions : Prop :=
  (decode [0x48] = .ok (.pha, []) ∧ ∀ s : State, ∃ t, exec .pha s = .next t ∧
      t.cpu = { s.cpu with pc := s.pc + 1, sp := s.sp - 1 } ∧ t.cyc = s.cyc + 3 ∧ Pushed s t [s.a] ∧
      RestOf { s with ram := t.ram, db := s.a } t) ∧
    (decode [0x08] = .ok (.php, []) ∧ ∀ s : State, ∃ t, exec .php s = .next t ∧
      t.cpu = { s.cpu with pc := s.pc + 1, sp := s.sp - 1 } ∧ t.cyc = s.cyc + 3 ∧ Pushed s t [image s.p true] ∧
      RestOf { s with ram := t.ram, db := image s.p true } t) ∧
    (decode [0x68] = .ok (.pla, []) ∧ ∀ s : State, ∃ t, exec .pla s = .next t ∧
      t.cpu = ldA (pulled s 0) { s.cpu with pc := s.pc + 1, sp := s.sp + 1 } ∧ t.cyc = s.cyc + 4 ∧
      RestOf (s.setDb (pulled s 0)) t ∧ MemoryKept s t) ∧
    decode [0x28] = .ok (.plp, []) ∧ ∀ s : State, ∃ t, exec .plp s = .next t ∧
      t.cpu = { s.cpu with pc := s.pc + 1, sp := s.sp + 1, p := flags (pulled s 0) } ∧ t.cyc = s.cyc + 4 ∧
      RestOf (s.setDb (pulled s 0)) t ∧ MemoryKept s t

/-- CLC, SEC, CLI, SEI, CLD, SED and CLV write one flag; NOP writes none. Formalises R485, R486, R487, R488, R489,
R490, R491, R492. -/
def Obligations.FlagInstructionsWriteOneFlag : Prop :=
    Registers [0x18] .clc 2 (fun c => { c with p := { c.p with c := false } }) ∧
    Registers [0x38] .sec 2 (fun c => { c with p := { c.p with c := true } }) ∧
    Registers [0x58] .cli 2 (fun c => { c with p := { c.p with i := false } }) ∧
    Registers [0x78] .sei 2 (fun c => { c with p := { c.p with i := true } }) ∧
    Registers [0xD8] .cld 2 (fun c => { c with p := { c.p with d := false } }) ∧
    Registers [0xF8] .sed 2 (fun c => { c with p := { c.p with d := true } }) ∧
    Registers [0xB8] .clv 2 (fun c => { c with p := { c.p with v := false } }) ∧
    Skips [0xEA] .nop (fun _ => 2)

/-- BRK pushes pc0 + 2 and the status with the break bit, sets I and loads PC from 0xFFFE; RTI pulls status and PC.
Formalises R495, R496. -/
def Obligations.SoftwareInterruptAndReturn : Prop :=
  (decode [0x00] = .ok (.brk, []) ∧ ∀ s : State, ∃ t, exec .brk s = .next t ∧ t.cyc = s.cyc + 7 ∧
    Entered s t (s.pc + 2) true true 0xFFFE) ∧
  (decode [0x40] = .ok (.rti, []) ∧ ∀ s : State, ∃ t, exec .rti s = .next t ∧
    t.cpu = { s.cpu with
      pc := BitVec.ofNat 16 (256 * (pulled s 2).toNat + (pulled s 1).toNat)
      sp := s.sp + 3
      p := flags (pulled s 0) } ∧
    t.cyc = s.cyc + 6 ∧ RestOf (s.setDb (pulled s 2)) t ∧ MemoryKept s t)

/-- Returning from an interrupt entry restores PC, S and every flag. Derived from R814, R818, R110, R112. -/
def Obligations.InterruptThenReturnResumes : Prop :=
  ∀ (s : State) (ret vector : Addr) (brk setI : Bool), s.ram.rising = true →
    ∃ t, exec .rti (enterInterrupt ret brk setI vector s) = .next t ∧ t.cpu = { s.cpu with pc := ret }

/-- The 27 unofficial NOPs move PC, pay their cost and touch nothing. Formalises R511, R512, R513. -/
def Obligations.UnofficialNopsReadNothing : Prop :=
  ∀ b1 b2 : Byte,
    Skips [0x04, b1] (.nopZp04 b1) (fun _ => 3) ∧
    Skips [0x0C, b1, b2] (.nopAbs0C b1 b2) (fun _ => 4) ∧
    Skips [0x14, b1] (.nopZpx14 b1) (fun _ => 4) ∧
    Skips [0x1A] .nop1A (fun _ => 2) ∧
    Skips [0x1C, b1, b2] (.nopAbx1C b1 b2) (fun s => 4 + (if 255 < b1.toNat + s.x.toNat then 1 else 0)) ∧
    Skips [0x34, b1] (.nopZpx34 b1) (fun _ => 4) ∧
    Skips [0x3A] .nop3A (fun _ => 2) ∧
    Skips [0x3C, b1, b2] (.nopAbx3C b1 b2) (fun s => 4 + (if 255 < b1.toNat + s.x.toNat then 1 else 0)) ∧
    Skips [0x44, b1] (.nopZp44 b1) (fun _ => 3) ∧
    Skips [0x54, b1] (.nopZpx54 b1) (fun _ => 4) ∧
    Skips [0x5A] .nop5A (fun _ => 2) ∧
    Skips [0x5C, b1, b2] (.nopAbx5C b1 b2) (fun s => 4 + (if 255 < b1.toNat + s.x.toNat then 1 else 0)) ∧
    Skips [0x64, b1] (.nopZp64 b1) (fun _ => 3) ∧
    Skips [0x74, b1] (.nopZpx74 b1) (fun _ => 4) ∧
    Skips [0x7A] .nop7A (fun _ => 2) ∧
    Skips [0x7C, b1, b2] (.nopAbx7C b1 b2) (fun s => 4 + (if 255 < b1.toNat + s.x.toNat then 1 else 0)) ∧
    Skips [0x80, b1] (.nopImm80 b1) (fun _ => 2) ∧
    Skips [0x82, b1] (.nopImm82 b1) (fun _ => 2) ∧
    Skips [0x89, b1] (.nopImm89 b1) (fun _ => 2) ∧
    Skips [0xC2, b1] (.nopImmC2 b1) (fun _ => 2) ∧
    Skips [0xD4, b1] (.nopZpxD4 b1) (fun _ => 4) ∧
    Skips [0xDA] .nopDA (fun _ => 2) ∧
    Skips [0xDC, b1, b2] (.nopAbxDC b1 b2) (fun s => 4 + (if 255 < b1.toNat + s.x.toNat then 1 else 0)) ∧
    Skips [0xE2, b1] (.nopImmE2 b1) (fun _ => 2) ∧
    Skips [0xF4, b1] (.nopZpxF4 b1) (fun _ => 4) ∧
    Skips [0xFA] .nopFA (fun _ => 2) ∧
    Skips [0xFC, b1, b2] (.nopAbxFC b1 b2) (fun s => 4 + (if 255 < b1.toNat + s.x.toNat then 1 else 0))

/-- DCP, ISC, SLO, RLA, SRE and RRA: one read, one write, then the register operation on the byte written. Formalises
R517, R518, R519, R520, R521, R522. -/
def Obligations.UnofficialReadModifyWrite : Prop :=
  (∀ b1 b2 : Byte,
    Modifies [0xC3, b1] (.dcpIzx b1) (.izx b1) 8 dec cmp ∧
    Modifies [0xC7, b1] (.dcpZp b1) (.zp b1) 5 dec cmp ∧
    Modifies [0xCF, b1, b2] (.dcpAbs b1 b2) (.abs b1 b2) 6 dec cmp ∧
    Modifies [0xD3, b1] (.dcpIzy b1) (.izy b1) 8 dec cmp ∧
    Modifies [0xD7, b1] (.dcpZpx b1) (.zpx b1) 6 dec cmp ∧
    Modifies [0xDB, b1, b2] (.dcpAby b1 b2) (.aby b1 b2) 7 dec cmp ∧
    Modifies [0xDF, b1, b2] (.dcpAbx b1 b2) (.abx b1 b2) 7 dec cmp ∧
    Modifies [0xE3, b1] (.iscIzx b1) (.izx b1) 8 inc sbc ∧
    Modifies [0xE7, b1] (.iscZp b1) (.zp b1) 5 inc sbc ∧
    Modifies [0xEF, b1, b2] (.iscAbs b1 b2) (.abs b1 b2) 6 inc sbc ∧
    Modifies [0xF3, b1] (.iscIzy b1) (.izy b1) 8 inc sbc ∧
    Modifies [0xF7, b1] (.iscZpx b1) (.zpx b1) 6 inc sbc ∧
    Modifies [0xFB, b1, b2] (.iscAby b1 b2) (.aby b1 b2) 7 inc sbc ∧
    Modifies [0xFF, b1, b2] (.iscAbx b1 b2) (.abx b1 b2) 7 inc sbc) ∧
  (∀ b1 b2 : Byte,
    Modifies [0x03, b1] (.sloIzx b1) (.izx b1) 8 asl logicOr ∧
    Modifies [0x07, b1] (.sloZp b1) (.zp b1) 5 asl logicOr ∧
    Modifies [0x0F, b1, b2] (.sloAbs b1 b2) (.abs b1 b2) 6 asl logicOr ∧
    Modifies [0x13, b1] (.sloIzy b1) (.izy b1) 8 asl logicOr ∧
    Modifies [0x17, b1] (.sloZpx b1) (.zpx b1) 6 asl logicOr ∧
    Modifies [0x1B, b1, b2] (.sloAby b1 b2) (.aby b1 b2) 7 asl logicOr ∧
    Modifies [0x1F, b1, b2] (.sloAbx b1 b2) (.abx b1 b2) 7 asl logicOr ∧
    Modifies [0x23, b1] (.rlaIzx b1) (.izx b1) 8 rol logicAnd ∧
    Modifies [0x27, b1] (.rlaZp b1) (.zp b1) 5 rol logicAnd ∧
    Modifies [0x2F, b1, b2] (.rlaAbs b1 b2) (.abs b1 b2) 6 rol logicAnd ∧
    Modifies [0x33, b1] (.rlaIzy b1) (.izy b1) 8 rol logicAnd ∧
    Modifies [0x37, b1] (.rlaZpx b1) (.zpx b1) 6 rol logicAnd ∧
    Modifies [0x3B, b1, b2] (.rlaAby b1 b2) (.aby b1 b2) 7 rol logicAnd ∧
    Modifies [0x3F, b1, b2] (.rlaAbx b1 b2) (.abx b1 b2) 7 rol logicAnd ∧
    Modifies [0x43, b1] (.sreIzx b1) (.izx b1) 8 lsr logicXor ∧
    Modifies [0x47, b1] (.sreZp b1) (.zp b1) 5 lsr logicXor ∧
    Modifies [0x4F, b1, b2] (.sreAbs b1 b2) (.abs b1 b2) 6 lsr logicXor ∧
    Modifies [0x53, b1] (.sreIzy b1) (.izy b1) 8 lsr logicXor ∧
    Modifies [0x57, b1] (.sreZpx b1) (.zpx b1) 6 lsr logicXor ∧
    Modifies [0x5B, b1, b2] (.sreAby b1 b2) (.aby b1 b2) 7 lsr logicXor ∧
    Modifies [0x5F, b1, b2] (.sreAbx b1 b2) (.abx b1 b2) 7 lsr logicXor ∧
    Modifies [0x63, b1] (.rraIzx b1) (.izx b1) 8 ror adc ∧
    Modifies [0x67, b1] (.rraZp b1) (.zp b1) 5 ror adc ∧
    Modifies [0x6F, b1, b2] (.rraAbs b1 b2) (.abs b1 b2) 6 ror adc ∧
    Modifies [0x73, b1] (.rraIzy b1) (.izy b1) 8 ror adc ∧
    Modifies [0x77, b1] (.rraZpx b1) (.zpx b1) 6 ror adc ∧
    Modifies [0x7B, b1, b2] (.rraAby b1 b2) (.aby b1 b2) 7 ror adc ∧
    Modifies [0x7F, b1, b2] (.rraAbx b1 b2) (.abx b1 b2) 7 ror adc)

/-- Exactly 25 opcode bytes are undecodable; each latches the fault, changes nothing else, and the machine is then
stuck. Derived from R314, R523, R802, R830. That exec answers a next state with the fault latched and that every later
step answers the fault is the model's reading (assumption 7), and that the 25 rows are one constructor its choice
(assumption 3). -/
def Obligations.UndecodableByteLatchesTheFault : Prop :=
  (∀ op : Byte, ∀ rest, decode (op :: rest) = .ok (.undecodable op, rest) ↔
      op ∈ ([0x02, 0x0B, 0x12, 0x22, 0x2B, 0x32, 0x42, 0x4B, 0x52, 0x62, 0x6B, 0x72, 0x8B] ++
        [0x92, 0x93, 0x9B, 0x9C, 0x9E, 0x9F, 0xAB, 0xB2, 0xBB, 0xCB, 0xD2, 0xF2] : List Byte)) ∧
    (∀ (op : Byte) (s : State), s.fault = none →
      exec (.undecodable op) s = .next { s with fault := some (.undecodableOpcode s.pc op) }) ∧
    ∀ (s : State) (r : Fault), s.fault = some r → step s = .fault r

/-- Addresses of the zero page, absolute and indexed modes, and their page-cross bit. Formalises R304, R305, R306,
R307. -/
def Obligations.DirectModesGiveTheAddress : Prop :=
  ∀ (b1 b2 : Byte) (s : State),
    (Mode.zp b1).resolve s = ⟨BitVec.ofNat 16 b1.toNat, false, s⟩ ∧
    (Mode.zpx b1).resolve s = ⟨BitVec.ofNat 16 ((b1.toNat + s.x.toNat) % 256), false, s⟩ ∧
    (Mode.zpy b1).resolve s = ⟨BitVec.ofNat 16 ((b1.toNat + s.y.toNat) % 256), false, s⟩ ∧
    (Mode.abs b1 b2).resolve s = ⟨BitVec.ofNat 16 (256 * b2.toNat + b1.toNat), false, s⟩ ∧
    (Mode.abx b1 b2).resolve s =
      ⟨BitVec.ofNat 16 (256 * b2.toNat + b1.toNat + s.x.toNat), decide (255 < b1.toNat + s.x.toNat), s⟩ ∧
    (Mode.aby b1 b2).resolve s =
      ⟨BitVec.ofNat 16 (256 * b2.toNat + b1.toNat + s.y.toNat), decide (255 < b1.toNat + s.y.toNat), s⟩

/-- Indexed indirect and indirect indexed take their pointer from page zero, wrapping there. Formalises R309, R310. -/
def Obligations.PointerModesWrapInPageZero : Prop :=
  ∀ (b1 : Byte) (s : State),
    (let z := b1.toNat + s.x.toNat
     let l := s.ram.read .ram (z % 256)
     let h := s.ram.read .ram ((z + 1) % 256)
     (Mode.izx b1).resolve s = ⟨BitVec.ofNat 16 (256 * h.toNat + l.toNat), false, s.setDb h⟩) ∧
    (let l := s.ram.read .ram b1.toNat
     let h := s.ram.read .ram ((b1.toNat + 1) % 256)
     (Mode.izy b1).resolve s =
       ⟨BitVec.ofNat 16 (256 * h.toNat + l.toNat + s.y.toNat), decide (255 < l.toNat + s.y.toNat), s.setDb h⟩)

/-- One word of every family, written from its encoding line, decodes to its instruction. Derived from R301, R313,
R401, R421, R461, R465, R519, R523. -/
def Obligations.WrittenWordsDecode : Prop :=
  decode [0xA9, 0x80] = .ok (.ldaImm 0x80, []) ∧ decode [0x8D, 0x00, 0x02] = .ok (.staAbs 0x00 0x02, []) ∧
    decode [0xBA] = .ok (.tsx, []) ∧ decode [0x71, 0x10] = .ok (.adcIzy 0x10, []) ∧
    decode [0xE0, 0x10] = .ok (.cpxImm 0x10, []) ∧ decode [0xFE, 0x34, 0x12] = .ok (.incAbx 0x34 0x12, []) ∧
    decode [0x6A] = .ok (.rorAcc, []) ∧ decode [0x6C, 0xFF, 0x02] = .ok (.jmpInd 0xFF 0x02, []) ∧
    decode [0x90, 0xFE] = .ok (.bcc 0xFE, []) ∧ decode [0x40] = .ok (.rti, []) ∧
    decode [0xB8] = .ok (.clv, []) ∧ decode [0x1B, 0x00, 0x80] = .ok (.sloAby 0x00 0x80, []) ∧
    decode [0xEB, 0x01] = .ok (.sbcImmEB 0x01, []) ∧ decode [0xB2] = .ok (.undecodable 0xB2, [])

/-- Decoding the encoding of a well-formed instruction gives it back, whatever follows. Derived from R300, R301, R316.
-/
def Obligations.DecodeOfEncodeIsTheInstruction : Prop :=
  ∀ (i : Instr) (rest : List Byte), i.wellFormed = true → decode (encode i ++ rest) = .ok (i, rest)

/-- What decodes is well-formed, encodes back to the bytes, and its length is fixed by the opcode byte. Derived from
R300, R312, R316. -/
def Obligations.EncodeOfDecodeIsTheBytes : Prop :=
  (∀ (bytes : List Byte) (i : Instr) (rest : List Byte), decode bytes = .ok (i, rest) →
      i.wellFormed = true ∧ encode i ++ rest = bytes ∧ 1 ≤ i.length ∧ i.length ≤ 3 ∧
      ∀ (bytes' : List Byte) (i' : Instr) (rest' : List Byte), decode bytes' = .ok (i', rest') →
        bytes'.head? = bytes.head? → i'.length = i.length) ∧
    ∀ b0 b1 b2 : Byte, ∀ rest, ∃ i rest', decode (b0 :: b1 :: b2 :: rest) = .ok (i, rest')

/-- A step runs the instruction whose bytes stand at PC, then finishes the step. Derived from R108, R302, R830. That
the instruction runs with the outputs of the step before cleared is the model's choice (assumption 11). What an
undecodable byte does that memory does not hold stands in UndecodableByteEndsTheStep. -/
def Obligations.StepRunsTheDecodedInstruction : Prop :=
  (∀ (s : State) (i : Instr), s.fault = none →
    let f := readBytes s.pc i.length { s with frameCompleted := false, samples := [] }
    decode f.1 = .ok (i, []) → (∀ op, i ≠ .undecodable op) → f.2.fault = none →
    ∃ t, exec i f.2 = .next t ∧ step s = finishStep t) ∧
  ∀ (s : State) (i : Instr) (bytes : List Byte), s.fault = none → decode bytes = .ok (i, []) →
    (∀ k, k < bytes.length → memByte s (s.pc + BitVec.ofNat 16 k) = bytes[k]?) →
    ∃ t, exec i { s with db := bytes.getLastD 0, frameCompleted := false, samples := [] } = .next t ∧ step s = finishStep t

/-- With the fixed mapping the step is the instruction, the PPU, the APU, the arbiter, and never faults. Derived from
R801, R830, R246, R247. That the outputs of the step before are cleared is the model's choice (assumption 11). -/
def Obligations.StepPhasesInOrder : Prop :=
  ∀ (s : State) (i : Instr), s.cart.fixed = true → s.fault = none →
    let f := readBytes s.pc i.length { s with frameCompleted := false, samples := [] }
    decode f.1 = .ok (i, []) → (∀ op, i ≠ .undecodable op) →
    ∃ t, exec i f.2 = .next t ∧
      step s = .next (arbiter (apuCatchUp (ppuCatchUp t))) ∧ (arbiter (apuCatchUp (ppuCatchUp t))).fault = none

/-- A step at an undecodable byte latches the fault and does nothing else. Derived from R523, R802, R803. That the
step answers a next state, with the outputs cleared, is the model's choice (assumptions 7, 11). -/
def Obligations.UndecodableByteEndsTheStep : Prop :=
  ∀ s : State, s.fault = none →
    let r := read8 s.pc s
    r.2.fault = none → r.1 ∈ undecodableBytes →
    step s = .next { s with
      db := r.1
      fault := some (.undecodableOpcode s.pc r.1)
      frameCompleted := false
      samples := [] }

/-- A fetch or an instruction that leaves the physical memory of the cartridge stops the step with MapperBounds.
Derived from R246, R802, R803. That the step answers the fault and no state is the model's reading (assumption 8). The
functions of another Mapper have no body, so a cartridge of the fixed mapping without a program bank is the witness.
-/
def Obligations.BoundsFaultStopsTheStep : Prop :=
  (∀ (s : State) (r : PrgRegion) (o : Nat), s.fault = none → 0x4020 ≤ s.pc.toNat →
    translatePrg s s.pc = some (r, o) → prgSize s r ≤ o → step s = .fault (.mapperBounds s.pc)) ∧
  ∀ (s : State) (i : Instr), s.fault = none →
    let f := readBytes s.pc i.length { s with frameCompleted := false, samples := [] }
    decode f.1 = .ok (i, []) →
    (∀ r, f.2.fault = some r → step s = .fault r) ∧
    ∀ t a, f.2.fault = none → exec i f.2 = .next t → t.fault = some (.mapperBounds a) →
      step s = .fault (.mapperBounds a)

/-- Catching up brings both units exactly to the clock; only sample fetches add cycles. Derived from R620, R701, R748,
R760. -/
def Obligations.CatchUpReachesTheClock : Prop :=
  (∀ s : State, s.ppu.ppuDots ≤ 3 * s.cyc →
      (ppuCatchUp s).ppu.ppuDots = 3 * s.cyc ∧ (ppuCatchUp s).cyc = s.cyc ∧ (ppuCatchUp s).cpu = s.cpu ∧
      (ppuCatchUp s).ram = s.ram ∧ (ppuCatchUp s).db = s.db ∧ (ppuCatchUp s).apu = s.apu) ∧
    ∀ s : State, s.apu.apuCyc ≤ s.cyc →
      (apuCatchUp s).apu.apuCyc = s.cyc ∧
      (apuCatchUp s).samples.length = s.samples.length + (s.cyc - s.apu.apuCyc) ∧
      (∃ k, k ≤ s.cyc - s.apu.apuCyc ∧ (apuCatchUp s).cyc = s.cyc + k * s.params.dmcStall) ∧
      (apuCatchUp s).cpu = s.cpu ∧ (apuCatchUp s).ram = s.ram ∧ (apuCatchUp s).ppu.ppuDots = s.ppu.ppuDots ∧
      (apuCatchUp s).ppu.scanline = s.ppu.scanline ∧ (apuCatchUp s).ppu.dot = s.ppu.dot

/-- An instruction costs 2 to 8 cycles, plus 513 or 514 exactly where it writes 0x4014; only the undecodable one costs
none. Derived from R320, R232, R523, R802. That exec of the undecodable instruction answers a next state is the
model's reading (assumption 7). -/
def Obligations.InstructionCostIsBounded : Prop :=
  ∀ (i : Instr) (s : State),
    (∀ op, i = .undecodable op → ∃ t, exec i s = .next t ∧ t.cyc = s.cyc) ∧
    ((∀ op, i ≠ .undecodable op) → ∃ t cost, exec i s = .next t ∧ 2 ≤ cost ∧ cost ≤ 8 ∧
      t.cyc = s.cyc + cost +
        (if (storeMode i).map (fun m => (m.resolve s).ea) = some 0x4014 then 513 + (s.cyc + cost) % 2 else 0))

/-- The invariant holds after reset. Derived from R133, R134, R155, R731. -/
def Obligations.InvariantHoldsAtReset : Prop :=
  State.reset.Inv

/-- Every step keeps the invariant, from every state that meets it. Derived from R120, R133, R134, R136, R143, R620,
R701, R705. -/
def Obligations.StepKeepsTheInvariant : Prop :=
  ∀ s t : State, s.Inv → step s = .next t → t.Inv

/-- With the fixed mapping every step, whatever the buttons, and every run go on safely until an undecodable byte is
fetched. Derived from R10, R246, R247, R801, R802, R830. That a step which meets an undecodable byte answers a next
state with the fault latched is the model's reading (assumption 7). -/
def Obligations.SafeRunsGoOn : Prop :=
  (∀ (b : Byte × Byte) (s : State), s.Safe →
    ∃ t, machineStep b s = .next t ∧ (t.buttons0, t.buttons1) = b ∧
      (t.Safe ∨ ∃ op, op ∈ undecodableBytes ∧ t.fault = some (.undecodableOpcode s.pc op))) ∧
  ∀ (bs : List (Byte × Byte)) (s : State), s.Safe →
    (∃ t, runs bs s = some t ∧ t.Safe) ∨
      ∃ k u t op, k < bs.length ∧ runs (bs.take k) s = some u ∧ u.Safe ∧ runs (bs.take (k + 1)) s = some t ∧
        op ∈ undecodableBytes ∧ t.fault = some (.undecodableOpcode u.pc op)

/-- No step changes the cartridge, the parameters or the buttons, and the clock never falls. Derived from R8, R9,
R115, R235, R247. -/
def Obligations.StepNeverChangesInputsOrReadOnlyParts : Prop :=
  ∀ s t : State, step s = .next t →
    t.cart = s.cart ∧ t.params = s.params ∧ t.buttons0 = s.buttons0 ∧ t.buttons1 = s.buttons1 ∧ s.cyc ≤ t.cyc ∧
    (s.cart.fixed = true → t.mapper.variant = s.mapper.variant ∧ t.mapper.prgRam = s.mapper.prgRam)

/-- Work RAM answers at 0x0000 to 0x1FFF modulo 2048. Formalises R203. -/
def Obligations.WorkRamIsMirrored : Prop :=
  ∀ (s : State) (a : Addr) (v : Byte), a.toNat < 0x2000 →
    read8 a s = (s.ram.read .ram (a.toNat % 2048), s.setDb (s.ram.read .ram (a.toNat % 2048))) ∧
    write8 a v s = { s with ram := s.ram.write .ram (a.toNat % 2048) v, db := v } ∧
    (s.ram.rising = true → ∀ b : Addr, b.toNat < 0x2000 →
      (read8 b (write8 a v s)).1 = if b.toNat % 2048 = a.toNat % 2048 then v else (read8 b s).1)

/-- Write-only registers and the unmapped window read as db; writes to the window only set db. Derived from R205,
R206, R212, R230. -/
def Obligations.OpenBusReadsReturnTheLatch : Prop :=
  ∀ (s : State) (a : Addr) (v : Byte),
    (0x4000 ≤ a.toNat → a.toNat ≤ 0x4014 → read8 a s = (s.db, s)) ∧
    (0x4018 ≤ a.toNat → a.toNat < 0x4020 → read8 a s = (s.db, s) ∧ write8 a v s = { s with db := v })

/-- The fixed mapping: program ROM at 0x8000 repeated, open bus below, writes change only db. Derived from R207, R208,
R212, R241, R247. -/
def Obligations.FixedMappingWindow : Prop :=
  ∀ (s : State) (a : Addr) (v : Byte), s.cart.fixed = true → 0x4020 ≤ a.toNat →
    (0x8000 ≤ a.toNat →
      let b := s.cart.prg.read .prg ((a.toNat - 0x8000) % (16384 * s.cart.prgBanks))
      read8 a s = (b, s.setDb b)) ∧
    (a.toNat < 0x8000 → read8 a s = (s.db, s)) ∧ write8 a v s = { s with db := v }

/-- A push and a pull at both values of STACK_ORDER, with S modulo 256. Formalises R106. -/
def Obligations.PushAndPullFollowTheStackOrder : Prop :=
  ∀ (s : State) (v : Byte),
    let below := 256 + (s.sp.toNat + 255) % 256
    let at' := 256 + s.sp.toNat
    let above := 256 + (s.sp.toNat + 1) % 256
    (s.params.stackOrder = .docPredecrement →
      push8 v s = { s with sp := s.sp - 1, ram := s.ram.write .ram below v, db := v } ∧
      pull8 s = (s.ram.read .ram at', { s with sp := s.sp + 1, db := s.ram.read .ram at' })) ∧
    (s.params.stackOrder = .mosPostdecrement →
      push8 v s = { s with sp := s.sp - 1, ram := s.ram.write .ram at' v, db := v } ∧
      pull8 s = (s.ram.read .ram above, { s with sp := s.sp + 1, db := s.ram.read .ram above }))

/-- A write of 0x4014 is 256 bus reads of the page, each written through PPU port 4. Formalises R231. -/
def Obligations.SpriteDmaCopiesAPage : Prop :=
  ∀ (s : State) (page : Byte),
    (∃ after : Nat → State, after 0 = s.setDb page ∧ write8 0x4014 page s = after 256 ∧
      ∀ i, i < 256 →
        let r := read8 (BitVec.ofNat 16 (256 * page.toNat + i)) (after i)
        after (i + 1) = write8 0x2004 r.1 r.2) ∧
    ∀ b : Nat → Byte, (∀ i, i < 256 → memByte s (BitVec.ofNat 16 (256 * page.toNat + i)) = some (b i)) →
      s.ppu.oam.rising = true →
      let t := write8 0x4014 page s
      t = { s with db := b 255, ppu := { s.ppu with ioLatch := b 255, oam := t.ppu.oam } } ∧
      ∀ i, i < 256 → t.ppu.oam.read .oam ((s.ppu.oamAddr.toNat + i) % 256) =
        if (s.ppu.oamAddr.toNat + i) % 4 = 2 then b i &&& 0xE3 else b i

/-- The controller ports: strobe, one button per read, open bus in bits 7 to 5. Formalises R235, R236. -/
def Obligations.ControllersShiftOneButtonPerRead : Prop :=
  ∀ s : State,
    (∀ v : Byte, write8 0x4016 v s = { s with
      db := v
      joyStrobe := decide (v.toNat % 2 = 1)
      joyShift0 := if v.toNat % 2 = 1 then s.buttons0 else s.joyShift0
      joyShift1 := if v.toNat % 2 = 1 then s.buttons1 else s.joyShift1 }) ∧
    (let r := BitVec.ofNat 8 (s.db.toNat / 32 * 32 + (if s.joyStrobe then s.buttons0 else s.joyShift0).toNat % 2)
     read8 0x4016 s = (r, { s with
       db := r
       joyShift0 := if s.joyStrobe then s.joyShift0 else BitVec.ofNat 8 (128 + s.joyShift0.toNat / 2) })) ∧
    (let r := BitVec.ofNat 8 (s.db.toNat / 32 * 32 + (if s.joyStrobe then s.buttons1 else s.joyShift1).toNat % 2)
     read8 0x4017 s = (r, { s with
       db := r
       joyShift1 := if s.joyStrobe then s.joyShift1 else BitVec.ofNat 8 (128 + s.joyShift1.toNat / 2) })) ∧
    (s.joyStrobe = false → ∀ n,
      (read8 0x4016 (readTimes 0x4016 n s)).1.toNat % 2 = (if n < 8 then s.joyShift0.toNat / 2 ^ n % 2 else 1) ∧
      (read8 0x4017 (readTimes 0x4017 n s)).1.toNat % 2 = (if n < 8 then s.joyShift1.toNat / 2 ^ n % 2 else 1))

/-- The state after power-on, for every fixed-mapping cartridge and every memory contents. Derived from R155, R900.
The blank cartridge of the reset state, the button masks 0 and the empty outputs are the model's choice (assumptions
5, 10, 11), and so is that initOam keeps bits 4 to 2 of its attribute bytes (assumption 20). -/
def Obligations.PowerOnState : Prop :=
  (∀ (cart : Cartridge) (params : Params) (initRam initVram initOam : Memory) (initPalette : Cells 6),
      cart.fixed = true →
      let l := cart.prg.read .prg (0x7FFC % (16384 * cart.prgBanks))
      let h := cart.prg.read .prg (0x7FFD % (16384 * cart.prgBanks))
      let pulse : Pulse := ⟨0, ⟨false, false, 0, false, 0, 0⟩, false, 0, false, 0, false, 0, 0, 0, 0, 0, false⟩
      powerOn cart params initRam initVram initOam initPalette =
        { a := 0, x := 0, y := 0, sp := 0xFD, pc := BitVec.ofNat 16 (256 * h.toNat + l.toNat)
          p := ⟨false, false, false, true, false, false⟩
          cyc := 0, fault := none, ram := initRam, db := h
          joyStrobe := false, joyShift0 := 0, joyShift1 := 0, nmiPending := false
          ppu := {
            ctrl := 0, mask := 0, vblank := false, sprite0Hit := false, spriteOverflow := false, oamAddr := 0
            v := 0, t := 0, x := 0, w := false, readBuffer := 0, ioLatch := 0
            vram := initVram, palette := initPalette, oam := initOam, secOam := []
            scanline := 0, dot := 0, frameParity := false, ppuDots := 0
            ntByte := 0, atBits := 0, ptLo := 0, ptHi := 0, bgLo := 0, bgHi := 0, atLo := 0, atHi := 0
            atLatchLo := false, atLatchHi := false
            sprCount := 0, sprites := List.replicate 8 ⟨0, 0, 0, 0⟩, sprZeroOnLine := false, vblSuppress := false
            framebuffer := [] }
          apu := {
            pulse1 := pulse, pulse2 := pulse, triangle := ⟨false, 0, 0, false, 0, 0, 0, 0, false⟩
            noise := ⟨⟨false, false, 0, false, 0, 0⟩, false, 0, 0, 1, 0, false⟩
            dmc := ⟨false, false, 0, 0, 0, 0, 0, 0, 0, 0, false, 0, 8, true⟩
            fsMode := false, fsIrqInhibit := false, fsCycle := 0, frameIrq := false, dmcIrq := false, apuCyc := 0 }
          mapper := ⟨⟨[], false⟩, [], []⟩
          buttons0 := 0, buttons1 := 0, frameCompleted := false, samples := [], cart := cart, params := params }) ∧
    State.reset = powerOn .blank .default [] [] [] [] ∧
    (∀ k, (Cells.read .secOam [] k : Byte) = 0xFF) ∧ (∀ k, (Cells.read .framebuffer [] k : BitVec 9) = 0) ∧
    ∀ k, (Cells.read .chrRam [] k : Byte) = 0

/-- The arbiter: NMI first, then an unmasked IRQ, else nothing; entry and its 7 cycles. Derived from R126, R811, R812,
R813, R814, R815. -/
def Obligations.ArbiterDeliversNmiBeforeIrq : Prop :=
  ∀ s : State,
    (s.nmiPending = true → (arbiter s).cyc = s.cyc + 7 ∧
      Entered (s.setNmiPending false) (arbiter s) s.pc false s.params.nmiSetsI 0xFFFA) ∧
    (s.nmiPending = false → (s.apu.frameIrq = true ∨ s.apu.dmcIrq = true ∨ mapperIrq s = true) → s.p.i = false →
      (arbiter s).cyc = s.cyc + 7 ∧ Entered s (arbiter s) s.pc false true 0xFFFE) ∧
    (s.nmiPending = false →
      (s.apu.frameIrq = false ∧ s.apu.dmcIrq = false ∧ mapperIrq s = false ∨ s.p.i = true) → arbiter s = s)

/-- Port 2 read: the flags and the latch bits; vblank and w are cleared, the race window noted. Formalises R610. -/
def Obligations.StatusPortRead : Prop :=
  ∀ (s : State) (a : Addr), PortAt 2 a →
    let r := BitVec.ofNat 8 (128 * num s.ppu.vblank + 64 * num s.ppu.sprite0Hit + 32 * num s.ppu.spriteOverflow +
      s.ppu.ioLatch.toNat % 32)
    read8 a s = (r, { s with
      db := r
      ppu := { s.ppu with
        vblank := false
        w := false
        ioLatch := r
        vblSuppress := s.ppu.vblSuppress || decide ((s.ppu.scanline, s.ppu.dot) ∈ s.params.vblRaceWindow) } })

/-- Writes of ports 0, 1 and 2; reads of the write-only ports give io_latch. Derived from R606, R607, R609, R610,
R611. -/
def Obligations.ControlMaskAndWriteOnlyPorts : Prop :=
  (∀ (s : State) (a : Addr) (b : Byte),
    (PortAt 0 a → write8 a b s = { s with
      db := b
      nmiPending := s.nmiPending || (s.params.nmiOnEnable && decide (s.ppu.ctrl.toNat < 128) &&
        decide (128 ≤ b.toNat) && s.ppu.vblank)
      ppu := { s.ppu with
        ioLatch := b
        ctrl := b
        t := BitVec.ofNat 15 (s.ppu.t.toNat / 4096 * 4096 + b.toNat % 4 * 1024 + s.ppu.t.toNat % 1024) } }) ∧
    (PortAt 1 a → write8 a b s = { s with db := b, ppu := { s.ppu with ioLatch := b, mask := b } }) ∧
    (PortAt 2 a → write8 a b s = { s with db := b, ppu := { s.ppu with ioLatch := b } })) ∧
  (∀ (s : State) (a : Addr) (n : Nat), n ∈ [0, 1, 3, 5, 6] → PortAt n a →
    read8 a s = (s.ppu.ioLatch, s.setDb s.ppu.ioLatch))

/-- Writes of ports 5 and 6: the two-write protocol of the scroll and address latches. Formalises R613, R614. -/
def Obligations.ScrollAndAddressPorts : Prop :=
  ∀ (s : State) (a : Addr) (b : Byte),
    (PortAt 5 a → s.ppu.w = false → write8 a b s = { s with
      db := b
      ppu := { s.ppu with
        ioLatch := b
        t := BitVec.ofNat 15 (s.ppu.t.toNat / 32 * 32 + b.toNat / 8)
        x := BitVec.ofNat 3 (b.toNat % 8)
        w := true } }) ∧
    (PortAt 5 a → s.ppu.w = true → write8 a b s = { s with
      db := b
      ppu := { s.ppu with
        ioLatch := b
        t := BitVec.ofNat 15 (b.toNat % 8 * 4096 + s.ppu.t.toNat / 1024 % 4 * 1024 + b.toNat / 8 * 32 +
          s.ppu.t.toNat % 32)
        w := false } }) ∧
    (PortAt 6 a → s.ppu.w = false → write8 a b s = { s with
      db := b
      ppu := { s.ppu with
        ioLatch := b
        t := BitVec.ofNat 15 (b.toNat % 64 * 256 + s.ppu.t.toNat % 256)
        w := true } }) ∧
    (PortAt 6 a → s.ppu.w = true →
      let t := BitVec.ofNat 15 (s.ppu.t.toNat / 256 * 256 + b.toNat)
      write8 a b s = { s with db := b, ppu := { s.ppu with ioLatch := b, t := t, v := t, w := false } })

/-- Ports 3 and 4: the OAM address, the byte written and the address after it, the read. Formalises R612, R618. -/
def Obligations.OamPorts : Prop :=
  ∀ (s : State) (a : Addr) (b : Byte),
    (PortAt 3 a → write8 a b s = { s with db := b, ppu := { s.ppu with ioLatch := b, oamAddr := b } }) ∧
    (PortAt 4 a →
      let t := write8 a b s
      t = { s with
        db := b
        ppu := { s.ppu with
          ioLatch := b
          oam := t.ppu.oam
          oamAddr := BitVec.ofNat 8 (s.ppu.oamAddr.toNat + 1) } } ∧
      (s.ppu.oam.rising = true → ∀ i, t.ppu.oam.read .oam i =
        if i = s.ppu.oamAddr.toNat then (if i % 4 = 2 then b &&& 0xE3 else b) else s.ppu.oam.read .oam i)) ∧
    (PortAt 4 a →
      let r := s.ppu.oam.read .oam s.ppu.oamAddr.toNat
      read8 a s = (r, { s with db := r, ppu := { s.ppu with ioLatch := r } }))

/-- Port 7: buffered reads below the palette, direct palette reads, writes, and the increment of v. Formalises R616,
R617. -/
def Obligations.DataPortReadsThroughTheBuffer : Prop :=
  ∀ (s : State) (a : Addr) (b : Byte), PortAt 7 a →
    let at' := BitVec.ofNat 14 s.ppu.v.toNat
    let v := BitVec.ofNat 15 (s.ppu.v.toNat + (if s.ppu.ctrl.toNat / 4 % 2 = 1 then 32 else 1))
    (let u := ppuWrite at' b { s with ppu := { s.ppu with ioLatch := b } }
     write8 a b s = { u with db := b, ppu := { u.ppu with v := v } }) ∧
    (at'.toNat < 0x3F00 →
      let m := ppuRead at' s
      read8 a s = (s.ppu.readBuffer, { m.2 with
        db := s.ppu.readBuffer
        ppu := { s.ppu with readBuffer := m.1, v := v, ioLatch := s.ppu.readBuffer } })) ∧
    (0x3F00 ≤ at'.toNat →
      let m := ppuRead at' s
      let r := BitVec.ofNat 8 (m.1.toNat % 64 + s.ppu.ioLatch.toNat / 64 * 64)
      let under := ppuRead (at' - 0x1000) m.2
      read8 a s = (r, { under.2 with db := r, ppu := { s.ppu with readBuffer := under.1, v := v, ioLatch := r } }))

/-- Pattern memory of the fixed mapping, the nametables with their three wirings, the palette with its four shared
cells. Derived from R243, R247, R251, R252, R253, R254. -/
def Obligations.PpuMemoryMap : Prop :=
  (∀ (s : State) (a : PpuAddr) (b : Byte),
    (0x2000 ≤ a.toNat → a.toNat < 0x3F00 →
      let cell := fun c : PpuAddr =>
        c.toNat % 1024 + 1024 * (match mirroringMode s with
          | .horizontal => c.toNat / 2048 % 2
          | .vertical => c.toNat / 1024 % 2
          | .fourScreen => c.toNat / 1024 % 4)
      let t := ppuWrite a b s
      ppuRead a s = (s.ppu.vram.read .vram (cell a), s) ∧ t = { s with ppu := { s.ppu with vram := t.ppu.vram } } ∧
      (s.ppu.vram.rising = true → ∀ c : PpuAddr, 0x2000 ≤ c.toNat → c.toNat < 0x3F00 →
        (ppuRead c t).1 = if cell c = cell a then b else (ppuRead c s).1)) ∧
    (0x3F00 ≤ a.toNat →
      let cell := fun c : PpuAddr =>
        if 16 ≤ c.toNat % 32 ∧ c.toNat % 4 = 0 then c.toNat % 32 - 16 else c.toNat % 32
      let t := ppuWrite a b s
      ppuRead a s = (BitVec.ofNat 8 (s.ppu.palette.read .palette (cell a)).toNat, s) ∧
      t = { s with ppu := { s.ppu with palette := t.ppu.palette } } ∧
      (s.ppu.palette.rising = true → ∀ c : PpuAddr, 0x3F00 ≤ c.toNat →
        (ppuRead c t).1 = if cell c = cell a then BitVec.ofNat 8 (b.toNat % 64) else (ppuRead c s).1))) ∧
  ∀ (s : State) (a : PpuAddr) (b : Byte), s.cart.fixed = true → a.toNat < 0x2000 →
    (s.cart.chrBanks = 0 →
      let t := ppuWrite a b s
      ppuRead a s = (s.mapper.chrRam.read .chrRam a.toNat, s) ∧
      t = { s with mapper := { s.mapper with chrRam := t.mapper.chrRam } } ∧
      (s.mapper.chrRam.rising = true → ∀ c : PpuAddr, c.toNat < 0x2000 →
        (ppuRead c t).1 = if c = a then b else (ppuRead c s).1)) ∧
    (s.cart.chrBanks ≠ 0 → ppuRead a s = (s.cart.chr.read .chr a.toNat, s) ∧ ppuWrite a b s = s)

/-- Dot (241, 1) sets vblank and raises the NMI unless suppressed; dot (261, 1) clears the flags. Formalises R642,
R643. -/
def Obligations.VblankFlagAndNmi : Prop :=
  ∀ s : State,
    (s.ppu.scanline = 241 → s.ppu.dot = 1 → dot s = { s with
      nmiPending := s.nmiPending || (!s.ppu.vblSuppress && decide (128 ≤ s.ppu.ctrl.toNat))
      ppu := { s.ppu with
        vblank := s.ppu.vblank || !s.ppu.vblSuppress
        vblSuppress := false
        dot := 2
        ppuDots := s.ppu.ppuDots + 1 } }) ∧
    (s.ppu.scanline = 261 → s.ppu.dot = 1 →
      (dot s).ppu.vblank = false ∧ (dot s).ppu.sprite0Hit = false ∧ (dot s).ppu.spriteOverflow = false ∧
      (dot s).nmiPending = s.nmiPending)

/-- At every other dot vblank and the NMI latch stay and no sprite flag is cleared; a Mapper's request stays until a
write of its window. Derived from R130, R622, R642, R643, R244, R247. -/
def Obligations.VblankChangesOnlyAtItsDots : Prop :=
  (∀ s : State, (s.ppu.scanline, s.ppu.dot) ≠ (241, 1) → (s.ppu.scanline, s.ppu.dot) ≠ (261, 1) →
    let t := dot s
    t.ppu.vblank = s.ppu.vblank ∧ t.nmiPending = s.nmiPending ∧ t.ppu.vblSuppress = s.ppu.vblSuppress ∧
    (s.ppu.sprite0Hit = true → t.ppu.sprite0Hit = true) ∧
    (s.ppu.spriteOverflow = true → t.ppu.spriteOverflow = true) ∧
    t.ppu.ctrl = s.ppu.ctrl ∧ t.ppu.mask = s.ppu.mask ∧ t.ppu.oamAddr = s.ppu.oamAddr ∧ t.ppu.t = s.ppu.t ∧
    t.ppu.x = s.ppu.x ∧ t.ppu.w = s.ppu.w ∧ t.ppu.readBuffer = s.ppu.readBuffer ∧ t.ppu.ioLatch = s.ppu.ioLatch ∧
    t.ppu.oam = s.ppu.oam ∧ t.ppu.vram = s.ppu.vram ∧ t.ppu.palette = s.ppu.palette) ∧
  (∀ s : State, mapperIrq s = true → mapperIrq (dot s) = true) ∧
  (∀ (a : Addr) (s : State), mapperIrq (read8 a s).2 = mapperIrq s) ∧
  (∀ (a : Addr) (v : Byte) (s : State), a.toNat < 0x4020 → mapperIrq (write8 a v s) = mapperIrq s) ∧
  ∀ s : State, s.cart.fixed = true → mapperIrq s = false

/-- Every frame takes 89342 dots, 89341 with even parity; the position is the dot count. Formalises R623, R624. -/
def Obligations.FrameLengthAndPosition : Prop :=
  ∀ s : State, s.ppu.scanline = 0 → s.ppu.dot = 0 →
    let short := s.ppu.frameParity = false ∧ (s.ppu.rendering = true ∨ s.params.skipNeedsRendering = false)
    let length := if short then 89341 else 89342
    (∀ k, k < length →
      (dots k s).ppu.scanline = k / 341 ∧ (dots k s).ppu.dot = k % 341 ∧
      (dots k s).ppu.frameParity = s.ppu.frameParity) ∧
    (dots length s).ppu.scanline = 0 ∧ (dots length s).ppu.dot = 0 ∧
    (dots length s).ppu.frameParity = !s.ppu.frameParity

/-- Sprite evaluation: the first eight in range, in OAM order; overflow exactly for a ninth. Formalises R652. -/
def Obligations.SpriteEvaluationKeepsTheFirstEight : Prop :=
  ∀ (s : State) (sl : Nat),
    (sl ≤ 239 →
      let h := if s.ppu.ctrl.toNat / 32 % 2 = 1 then 16 else 8
      let sel := (List.range 64).filter fun i =>
        decide ((s.ppu.oam.read .oam (4 * i)).toNat ≤ sl ∧ sl < (s.ppu.oam.read .oam (4 * i)).toNat + h)
      let t := (spritesForNextLine sl s).ppu
      t.sprCount = min 8 sel.length ∧ t.spriteOverflow = (s.ppu.spriteOverflow || decide (8 < sel.length)) ∧
      t.sprZeroOnLine = decide (0 ∈ sel) ∧
      (∀ k j, k < t.sprCount → j < 4 →
        t.secOam.read .secOam (4 * k + j) = s.ppu.oam.read .oam (4 * sel.getD k 0 + j)) ∧
      ∀ c, 4 * t.sprCount ≤ c → t.secOam.read .secOam c = 0xFF) ∧
    (sl = 261 → spritesForNextLine sl s = { s with ppu := { s.ppu with sprCount := 0, sprZeroOnLine := false } })

/-- The palette index chosen between background and sprite. Formalises R657. -/
def Obligations.PriorityMultiplexer : Prop :=
  ∀ (bgpix bgpal sp : Nat) (sa : Byte), bgpix < 4 → bgpal < 4 → sp < 4 →
    let sprite := 0x10 ||| ((sa.toNat &&& 3) <<< 2) ||| sp
    let background := (bgpal <<< 2) ||| bgpix
    (bgpix = 0 → sp = 0 → muxIndex bgpix bgpal sp sa = 0) ∧
    (bgpix = 0 → sp ≠ 0 → muxIndex bgpix bgpal sp sa = sprite) ∧
    (bgpix ≠ 0 → sp = 0 → muxIndex bgpix bgpal sp sa = background) ∧
    (bgpix ≠ 0 → sp ≠ 0 → sa.toNat / 32 % 2 = 0 → muxIndex bgpix bgpal sp sa = sprite) ∧
    (bgpix ≠ 0 → sp ≠ 0 → sa.toNat / 32 % 2 = 1 → muxIndex bgpix bgpal sp sa = background)

/-- Sprite-zero hit: set exactly where sprite 0 and the background both have an opaque pixel that is shown. Derived
from R654, R655, R636, R658. -/
def Obligations.SpriteZeroHitConditions : Prop :=
  ∀ (order : SpriteOverlapOrder) (sl px : Nat) (p : Ppu),
    (let bit := fun v k => v / 2 ^ k % 2 = 1
     let shown := fun show' left => bit p.mask.toNat show' ∧ (px < 8 → bit p.mask.toNat left)
     (p.pixel order sl px).sprite0Hit = true ↔
       p.sprite0Hit = true ∨
        (p.sprZeroOnLine = true ∧ px ≠ 255 ∧
          shown 3 1 ∧ (bit p.bgLo.toNat (15 - p.x.toNat) ∨ bit p.bgHi.toNat (15 - p.x.toNat)) ∧
          shown 4 2 ∧ 0 < p.sprCount ∧
          ∃ u, p.sprites.head? = some u ∧ u.x.toNat ≤ px ∧ px ≤ u.x.toNat + 7 ∧
            (bit u.lo.toNat (7 - (px - u.x.toNat)) ∨ bit u.hi.toNat (7 - (px - u.x.toNat))))) ∧
    (p.rendering = false → p.framebuffer.rising = true →
      (p.pixel order sl px).sprite0Hit = p.sprite0Hit ∧
      (p.pixel order sl px).framebuffer.read .framebuffer (256 * sl + px) =
        BitVec.ofNat 9 (p.mask.toNat / 32 * 64 +
          (if p.mask.toNat % 2 = 1 then (p.palette.read .palette 0 &&& 0x30) else p.palette.read .palette 0).toNat))

/-- Read of 0x4015: interrupt flags, bit 5 of db, the length counters; frame_irq is acknowledged. Formalises R706. -/
def Obligations.ApuStatusRead : Prop :=
  ∀ s : State,
    let r := BitVec.ofNat 8 (128 * num s.apu.dmcIrq + 64 * num s.apu.frameIrq + s.db.toNat / 32 % 2 * 32 +
      16 * num (decide (0 < s.apu.dmc.bytesLeft.toNat)) + 8 * num (decide (0 < s.apu.noise.length.toNat)) +
      4 * num (decide (0 < s.apu.triangle.length.toNat)) + 2 * num (decide (0 < s.apu.pulse2.length.toNat)) +
      num (decide (0 < s.apu.pulse1.length.toNat)))
    read8 0x4015 s = (r, { s with db := r, apu := { s.apu with frameIrq := false } })

/-- Write of 0x4015: enables, counters of disabled channels, the sample reader, dmc_irq. Formalises R705. -/
def Obligations.ApuEnableWrite : Prop :=
  ∀ (s : State) (b : Byte),
    let on := fun k => decide (b.toNat / 2 ^ k % 2 = 1)
    write8 0x4015 b s = { s with
      db := b
      apu := { s.apu with
        pulse1 := { s.apu.pulse1 with enabled := on 0, length := if on 0 then s.apu.pulse1.length else 0 }
        pulse2 := { s.apu.pulse2 with enabled := on 1, length := if on 1 then s.apu.pulse2.length else 0 }
        triangle := { s.apu.triangle with enabled := on 2, length := if on 2 then s.apu.triangle.length else 0 }
        noise := { s.apu.noise with enabled := on 3, length := if on 3 then s.apu.noise.length else 0 }
        dmcIrq := false
        dmc :=
          if on 4 = false then { s.apu.dmc with bytesLeft := 0 }
          else if s.apu.dmc.bytesLeft = 0 then { s.apu.dmc with
            curAddr := BitVec.ofNat 16 (0xC000 + 64 * s.apu.dmc.sampleAddr.toNat)
            bytesLeft := BitVec.ofNat 12 (16 * s.apu.dmc.sampleLen.toNat + 1) }
          else s.apu.dmc } }

/-- The registers 0x4000 to 0x4013 of the five channels. Formalises R711, R712, R713, R714, R720, R730, R741, R742,
R743. -/
def Obligations.ChannelRegisterWrites : Prop :=
  (∀ (s : State) (b : Byte),
    let bit := fun k => decide (b.toNat / 2 ^ k % 2 = 1)
    write8 0x4000 b s = { s with db := b, apu := { s.apu with pulse1 := { s.apu.pulse1 with
        duty := BitVec.ofNat 2 (b.toNat / 64)
        env := { s.apu.pulse1.env with halt := bit 5, constVol := bit 4, vol := BitVec.ofNat 4 b.toNat } } } } ∧
    write8 0x4001 b s = { s with db := b, apu := { s.apu with pulse1 := { s.apu.pulse1 with
        sweepEn := bit 7
        sweepPeriod := BitVec.ofNat 3 (b.toNat / 16)
        sweepNeg := bit 3
        sweepShift := BitVec.ofNat 3 b.toNat
        sweepReload := true } } } ∧
    write8 0x4002 b s = { s with db := b, apu := { s.apu with pulse1 := { s.apu.pulse1 with
        timerPeriod := BitVec.ofNat 11 (s.apu.pulse1.timerPeriod.toNat / 256 * 256 + b.toNat) } } } ∧
    write8 0x4003 b s = { s with db := b, apu := { s.apu with pulse1 := { s.apu.pulse1 with
        timerPeriod := BitVec.ofNat 11 (b.toNat % 8 * 256 + s.apu.pulse1.timerPeriod.toNat % 256)
        length := if s.apu.pulse1.enabled then lengthTable.getD (b.toNat / 8) 0 else s.apu.pulse1.length
        seq := 0
        env := { s.apu.pulse1.env with start := true } } } } ∧
    write8 0x4004 b s = { s with db := b, apu := { s.apu with pulse2 := { s.apu.pulse2 with
        duty := BitVec.ofNat 2 (b.toNat / 64)
        env := { s.apu.pulse2.env with halt := bit 5, constVol := bit 4, vol := BitVec.ofNat 4 b.toNat } } } } ∧
    write8 0x4005 b s = { s with db := b, apu := { s.apu with pulse2 := { s.apu.pulse2 with
        sweepEn := bit 7
        sweepPeriod := BitVec.ofNat 3 (b.toNat / 16)
        sweepNeg := bit 3
        sweepShift := BitVec.ofNat 3 b.toNat
        sweepReload := true } } } ∧
    write8 0x4006 b s = { s with db := b, apu := { s.apu with pulse2 := { s.apu.pulse2 with
        timerPeriod := BitVec.ofNat 11 (s.apu.pulse2.timerPeriod.toNat / 256 * 256 + b.toNat) } } } ∧
    write8 0x4007 b s = { s with db := b, apu := { s.apu with pulse2 := { s.apu.pulse2 with
        timerPeriod := BitVec.ofNat 11 (b.toNat % 8 * 256 + s.apu.pulse2.timerPeriod.toNat % 256)
        length := if s.apu.pulse2.enabled then lengthTable.getD (b.toNat / 8) 0 else s.apu.pulse2.length
        seq := 0
        env := { s.apu.pulse2.env with start := true } } } }) ∧
  (∀ (s : State) (b : Byte),
    let bit := fun k => decide (b.toNat / 2 ^ k % 2 = 1)
    let with' := fun u : Apu => { s with db := b, apu := u }
    let tri := s.apu.triangle
    let noise := s.apu.noise
    let dmc := s.apu.dmc
    write8 0x4008 b s = with' { s.apu with triangle := { tri with
      control := bit 7
      linearReloadVal := BitVec.ofNat 7 (b.toNat % 128) } } ∧
    write8 0x4009 b s = with' s.apu ∧
    write8 0x400A b s = with' { s.apu with triangle := { tri with
      timerPeriod := BitVec.ofNat 11 (tri.timerPeriod.toNat / 256 * 256 + b.toNat) } } ∧
    write8 0x400B b s = with' { s.apu with triangle := { tri with
      timerPeriod := BitVec.ofNat 11 (b.toNat % 8 * 256 + tri.timerPeriod.toNat % 256)
      length := if tri.enabled then lengthTable.getD (b.toNat / 8) 0 else tri.length
      linearReload := true } } ∧
    write8 0x400C b s = with' { s.apu with noise := { noise with
      env := { noise.env with halt := bit 5, constVol := bit 4, vol := BitVec.ofNat 4 b.toNat } } } ∧
    write8 0x400D b s = with' s.apu ∧
    write8 0x400E b s = with' { s.apu with noise := { noise with mode := bit 7, periodIdx := BitVec.ofNat 4 b.toNat } } ∧
    write8 0x400F b s = with' { s.apu with noise := { noise with
      length := if noise.enabled then lengthTable.getD (b.toNat / 8) 0 else noise.length
      env := { noise.env with start := true } } } ∧
    write8 0x4010 b s = with' { s.apu with
      dmc := { dmc with irqEn := bit 7, loop := bit 6, rateIdx := BitVec.ofNat 4 b.toNat }
      dmcIrq := s.apu.dmcIrq && bit 7 } ∧
    write8 0x4011 b s = with' { s.apu with dmc := { dmc with level := BitVec.ofNat 7 (b.toNat % 128) } } ∧
    write8 0x4012 b s = with' { s.apu with dmc := { dmc with sampleAddr := b } } ∧
    write8 0x4013 b s = with' { s.apu with dmc := { dmc with sampleLen := b } })

/-- The frame sequencer: its period in each mode, when it raises the frame interrupt, and the write of 0x4017. Derived
from R750, R751, R752, R753, R754, R718, R722. -/
def Obligations.FrameSequencerPeriods : Prop :=
  (∀ u : Apu, u.fsCycle = 0 →
    let period := if u.fsMode then 37282 else 29830
    ∀ k, k ≤ period →
      (sequencerSteps k u).fsCycle = k % period ∧
      (sequencerSteps k u).frameIrq =
        (u.frameIrq || (!u.fsMode && decide (29829 ≤ k) && !u.fsIrqInhibit)) ∧
      (sequencerSteps k u).fsMode = u.fsMode) ∧
  ∀ (s : State) (b : Byte),
    let bit := fun k => decide (b.toNat / 2 ^ k % 2 = 1)
    let u : Apu :=
      { s.apu with fsMode := bit 7, fsIrqInhibit := bit 6, frameIrq := s.apu.frameIrq && !bit 6, fsCycle := 0 }
    let counted := fun (halt : Bool) (length : Byte) => if halt = false ∧ length ≠ 0 then length - 1 else length
    let pulse := fun first (p : Pulse) =>
      ({ p with env := p.env.clock, length := counted p.env.halt p.length } : Pulse).sweepClock first
    write8 0x4017 b s = { s with
      db := b
      apu := if bit 7 = false then u else { u with
        pulse1 := pulse true u.pulse1
        pulse2 := pulse false u.pulse2
        noise := { u.noise with env := u.noise.env.clock, length := counted u.noise.env.halt u.noise.length }
        triangle := { u.triangle with
          linear :=
            if u.triangle.linearReload = true then u.triangle.linearReloadVal
            else BitVec.ofNat 7 (u.triangle.linear.toNat - 1)
          linearReload := u.triangle.linearReload && u.triangle.control
          length := counted u.triangle.control u.triangle.length } } }

/-- One clock of an envelope, and its output. Formalises R716. -/
def Obligations.EnvelopeClocking : Prop :=
  ∀ e : Envelope,
    (e.start = true → e.clock = { e with start := false, decay := 15, div := e.vol }) ∧
    (e.start = false → e.div = 0 → 0 < e.decay.toNat →
      e.clock = { e with div := e.vol, decay := BitVec.ofNat 4 (e.decay.toNat - 1) }) ∧
    (e.start = false → e.div = 0 → e.decay = 0 → e.halt = true → e.clock = { e with div := e.vol, decay := 15 }) ∧
    (e.start = false → e.div = 0 → e.decay = 0 → e.halt = false → e.clock = { e with div := e.vol }) ∧
    (e.start = false → e.div ≠ 0 → e.clock = { e with div := BitVec.ofNat 4 (e.div.toNat - 1) }) ∧
    e.out = if e.constVol then e.vol.toNat else e.decay.toNat

/-- The sweep unit: its target, when it mutes, when it retunes, and its divider. Formalises R717. -/
def Obligations.SweepRetunesOnlyInRange : Prop :=
  ∀ (first : Bool) (p : Pulse),
    let period := p.timerPeriod.toNat
    let change := period / 2 ^ p.sweepShift.toNat
    let target : Int :=
      if p.sweepNeg then max 0 ((period : Int) - change - (if first then 1 else 0)) else period + change
    let mute := period < 8 ∨ 0x7FF < target
    (mute → p.out first = 0) ∧
    p.sweepClock first = { p with
      timerPeriod := (p.sweepClock first).timerPeriod
      sweepDiv := if p.sweepDiv = 0 ∨ p.sweepReload = true then p.sweepPeriod else p.sweepDiv - 1
      sweepReload := false } ∧
    ((p.sweepClock first).timerPeriod.toNat : Int) =
      if p.sweepDiv = 0 ∧ p.sweepEn = true ∧ p.sweepShift ≠ 0 ∧ ¬mute then target else period

/-- One output clock of the sample channel. Formalises R745. -/
def Obligations.SampleLevelStaysInRange : Prop :=
  ∀ d : Dmc,
    let moved : Int := if d.shift.toNat % 2 = 1 then d.level.toNat + 2 else (d.level.toNat : Int) - 2
    let level := if d.silence = true ∨ moved < 0 ∨ 127 < moved then d.level else BitVec.ofInt 7 moved
    let rest := { d with level := level, shift := BitVec.ofNat 8 (d.shift.toNat / 2), bitsLeft := d.bitsLeft - 1 }
    (d.bitsLeft ≠ 1 → d.outputClock = rest) ∧
    (d.bitsLeft = 1 → d.bufferFull = true → d.outputClock =
      { rest with bitsLeft := 8, silence := false, shift := d.buffer, bufferFull := false }) ∧
    (d.bitsLeft = 1 → d.bufferFull = false → d.outputClock = { rest with bitsLeft := 8, silence := true })

/-- A sample fetch: the byte, the stall, the next address with its wrap, the loop, the interrupt. Formalises R748. -/
def Obligations.SampleFetchReadsTheBus : Prop :=
  ∀ (s : State) (b : Byte), 0x8000 ≤ s.apu.dmc.curAddr.toNat → memByte s s.apu.dmc.curAddr = some b →
    let d := s.apu.dmc
    let last := d.bytesLeft = 1
    dmcFetch s = { s with
      db := b
      cyc := s.cyc + s.params.dmcStall
      apu := { s.apu with
        dmcIrq := s.apu.dmcIrq || decide (last ∧ d.loop = false ∧ d.irqEn = true)
        dmc := { d with
          buffer := b
          bufferFull := true
          curAddr :=
            if last ∧ d.loop = true then BitVec.ofNat 16 (0xC000 + 64 * d.sampleAddr.toNat)
            else if d.curAddr.toNat = 0xFFFF then 0x8000
            else BitVec.ofNat 16 (d.curAddr.toNat + 1)
          bytesLeft :=
            if last ∧ d.loop = true then BitVec.ofNat 12 (16 * d.sampleLen.toNat + 1) else d.bytesLeft - 1 } } }

end
end

