-- ==== Sys2Proof/Laws/Memory.lean ====
section
/-! SUPPORT. Memories: a read after a write of the same cell gives the value written, a write leaves every other cell
alone, and a write keeps the canonical form and the size. Equal reads of canonical memories mean equal memories. -/

namespace Sys2Proof.Machine.Cells

variable {w : Nat} {r : Region} {m : Cells w}

/-- A write leaves every other cell alone, whatever the list looks like. -/
theorem read_write_ne {a b : Nat} (v : BitVec w) (h : b ≠ a) : (m.write r a v).read r b = m.read r b := by
  induction m with
  | nil => simp only [write]; split <;> simp [read, h]
  | cons c m ih =>
    obtain ⟨k, x⟩ := c
    simp only [write]
    repeat' split
    all_goals first
      | rfl
      | (subst_vars; simp [read, h]; done)
      | simp [read, ih]

/-- What `rising` says of a first entry. -/
theorem rising_cons {k : Nat} {x : BitVec w} :
    rising ((k, x) :: m) = true ↔ (∀ c ∈ m, k < c.1) ∧ m.rising = true := by
  induction m generalizing k x with
  | nil => simp [rising]
  | cons c m ih =>
    obtain ⟨k', x'⟩ := c
    simp only [rising, Bool.and_eq_true, decide_eq_true_eq]
    constructor
    · rintro ⟨hk, hr⟩
      refine ⟨?_, hr⟩
      intro d hd
      cases List.mem_cons.1 hd with
      | inl h => subst h; exact hk
      | inr h => exact Nat.lt_trans hk ((ih.1 hr).1 d h)
    · rintro ⟨hk, hr⟩
      exact ⟨hk (k', x') (by simp), hr⟩

/-- A cell below every listed one reads as an unlisted one. -/
theorem read_of_lt {a : Nat} (h : ∀ c ∈ m, a < c.1) : m.read r a = BitVec.ofNat w r.unlisted := by
  induction m with
  | nil => rfl
  | cons c m ih =>
    obtain ⟨k, x⟩ := c
    have hk : a < k := h (k, x) (by simp)
    have : a ≠ k := by omega
    simp only [read, this, if_false]
    exact ih fun d hd => h d (by simp [hd])

/-- A read after a write of the same cell gives the value written. -/
theorem read_write_same {a : Nat} (v : BitVec w) (h : m.rising = true) : (m.write r a v).read r a = v := by
  induction m with
  | nil => simp only [write]; split <;> simp_all [read]
  | cons c m ih =>
    obtain ⟨k, x⟩ := c
    obtain ⟨hlt, hr⟩ := rising_cons.1 h
    simp only [write]
    split
    · rename_i hak
      split
      · rename_i hv
        have : a ≠ k := by omega
        simp only [read, this, if_false]
        rw [hv]
        exact read_of_lt fun d hd => Nat.lt_trans hak (hlt d hd)
      · simp [read]
    · split
      · rename_i hak
        subst hak
        split
        · rename_i hv
          rw [hv]
          exact read_of_lt hlt
        · simp [read]
      · rename_i hne
        simp only [read, hne, if_false]
        exact ih hr

/-- Every entry after a write was there before, or is the one written. -/
theorem mem_write {a : Nat} {v : BitVec w} {c : Nat × BitVec w} (h : c ∈ m.write r a v) :
    c ∈ m ∨ (c = (a, v) ∧ v ≠ BitVec.ofNat w r.unlisted) := by
  induction m with
  | nil =>
    simp only [write] at h
    split at h <;> simp_all
  | cons d m ih =>
    obtain ⟨k, x⟩ := d
    simp only [write] at h
    split at h
    · split at h
      · exact .inl h
      · cases List.mem_cons.1 h with
        | inl e => exact .inr ⟨e, by assumption⟩
        | inr e => exact .inl e
    · split at h
      · rename_i hak
        split at h
        · exact .inl (List.mem_cons_of_mem _ h)
        · cases List.mem_cons.1 h with
          | inl e => subst hak; exact .inr ⟨e, by assumption⟩
          | inr e => exact .inl (List.mem_cons_of_mem _ e)
      · cases List.mem_cons.1 h with
        | inl e => subst e; exact .inl (by simp)
        | inr e =>
          cases ih e with
          | inl e => exact .inl (List.mem_cons_of_mem _ e)
          | inr e => exact .inr e

/-- A write keeps the indices rising. -/
theorem write_rising {a : Nat} (v : BitVec w) (h : m.rising = true) : (m.write r a v).rising = true := by
  induction m with
  | nil => simp only [write]; split <;> rfl
  | cons c m ih =>
    obtain ⟨k, x⟩ := c
    obtain ⟨hlt, hr⟩ := rising_cons.1 h
    simp only [write]
    split
    · rename_i hak
      split
      · exact h
      · refine rising_cons.2 ⟨?_, h⟩
        intro d hd
        cases List.mem_cons.1 hd with
        | inl e => subst e; exact hak
        | inr e => exact Nat.lt_trans hak (hlt d e)
    · split
      · split
        · exact hr
        · exact rising_cons.2 ⟨hlt, hr⟩
      · refine rising_cons.2 ⟨?_, ih hr⟩
        intro d hd
        cases mem_write hd with
        | inl e => exact hlt d e
        | inr e => rw [e.1]; show k < a; omega

theorem wf_iff : wf r m = true ↔ m.rising = true ∧ ∀ c ∈ m, c.2 ≠ BitVec.ofNat w r.unlisted := by
  simp [wf, List.all_eq_true]

theorem within_iff {n : Nat} : within n m = true ↔ ∀ c ∈ m, c.1 < n := by
  simp [within, List.all_eq_true]

/-- A write keeps the canonical form. -/
theorem write_wf {a : Nat} (v : BitVec w) (h : wf r m = true) : wf r (m.write r a v) = true := by
  obtain ⟨hr, hv⟩ := wf_iff.1 h
  refine wf_iff.2 ⟨write_rising v hr, ?_⟩
  intro c hc
  cases mem_write hc with
  | inl e => exact hv c e
  | inr e => rw [e.1]; exact e.2

/-- A write below the size keeps the size. -/
theorem write_within {a n : Nat} (v : BitVec w) (ha : a < n) (h : within n m = true) :
    within n (m.write r a v) = true := by
  refine within_iff.2 fun c hc => ?_
  cases mem_write hc with
  | inl e => exact within_iff.1 h c e
  | inr e => rw [e.1]; exact ha

/-- A write below the size keeps a memory canonical and within its size. -/
theorem write_sized {a n : Nat} (v : BitVec w) (ha : a < n) (h : sized r n m = true) :
    sized r n (m.write r a v) = true := by
  simp only [sized, Bool.and_eq_true] at *
  exact ⟨write_wf v h.1, write_within v ha h.2⟩

theorem rising_of_wf (h : wf r m = true) : m.rising = true := (wf_iff.1 h).1

theorem wf_of_sized {n : Nat} (h : sized r n m = true) : wf r m = true := by
  simp only [sized, Bool.and_eq_true] at h
  exact h.1

theorem rising_of_sized {n : Nat} (h : sized r n m = true) : m.rising = true := rising_of_wf (wf_of_sized h)

/-- Two canonical memories that read alike are the same list. -/
theorem eq_of_read {m' : Cells w} (h : wf r m = true) (h' : wf r m' = true)
    (e : ∀ a, m.read r a = m'.read r a) : m = m' := by
  induction m generalizing m' with
  | nil =>
    cases m' with
    | nil => rfl
    | cons c m' =>
      obtain ⟨k, x⟩ := c
      have hx := (wf_iff.1 h').2 (k, x) (by simp)
      have := e k
      simp [read] at this
      exact absurd this.symm hx
  | cons c m ih =>
    obtain ⟨k, x⟩ := c
    obtain ⟨hr, hv⟩ := wf_iff.1 h
    obtain ⟨hlt, hrm⟩ := rising_cons.1 hr
    have hx := hv (k, x) (by simp)
    cases m' with
    | nil => have := e k; simp [read] at this; exact absurd this hx
    | cons d m' =>
      obtain ⟨k', x'⟩ := d
      obtain ⟨hr', hv'⟩ := wf_iff.1 h'
      obtain ⟨hlt', hrm'⟩ := rising_cons.1 hr'
      have hx' := hv' (k', x') (by simp)
      have hk : k = k' := by
        rcases Nat.lt_trichotomy k k' with hlt2 | heq | hgt
        · exfalso
          have := e k
          rw [show Cells.read r ((k', x') :: m') k = BitVec.ofNat w r.unlisted from
            read_of_lt fun d hd => by
              cases List.mem_cons.1 hd with
              | inl e => subst e; exact hlt2
              | inr e => exact Nat.lt_trans hlt2 (hlt' d e)] at this
          simp [read] at this
          exact hx this
        · exact heq
        · exfalso
          have := e k'
          rw [show Cells.read r ((k, x) :: m) k' = BitVec.ofNat w r.unlisted from
            read_of_lt fun d hd => by
              cases List.mem_cons.1 hd with
              | inl e => subst e; exact hgt
              | inr e => exact Nat.lt_trans hgt (hlt d e)] at this
          simp [read] at this
          exact hx' this.symm
      subst hk
      have hxx : x = x' := by have := e k; simpa [read] using this
      subst hxx
      congr 1
      refine ih (wf_iff.2 ⟨hrm, fun c hc => hv c (by simp [hc])⟩)
        (wf_iff.2 ⟨hrm', fun c hc => hv' c (by simp [hc])⟩) fun a => ?_
      by_cases ha : a = k
      · subst ha
        rw [read_of_lt hlt, read_of_lt hlt']
      · have := e a
        simpa [read, ha] using this

end Sys2Proof.Machine.Cells
end

