-- ==== Sys2Proof/Laws/State.lean ====
section
/-! SUPPORT. One lemma per field and update of `State`: the field an update names holds the new value, every other field
holds the old one. All are true by `rfl`, so that no proof unfolds a record update. -/

namespace Sys2Proof.Machine

namespace State

variable (s : State)

/-! `setA` -/

@[simp] theorem setA_a (v) : (s.setA v).a = v := rfl
@[simp] theorem setA_x (v) : (s.setA v).x = s.x := rfl
@[simp] theorem setA_y (v) : (s.setA v).y = s.y := rfl
@[simp] theorem setA_sp (v) : (s.setA v).sp = s.sp := rfl
@[simp] theorem setA_pc (v) : (s.setA v).pc = s.pc := rfl
@[simp] theorem setA_p (v) : (s.setA v).p = s.p := rfl
@[simp] theorem setA_cyc (v) : (s.setA v).cyc = s.cyc := rfl
@[simp] theorem setA_fault (v) : (s.setA v).fault = s.fault := rfl
@[simp] theorem setA_ram (v) : (s.setA v).ram = s.ram := rfl
@[simp] theorem setA_db (v) : (s.setA v).db = s.db := rfl
@[simp] theorem setA_joyStrobe (v) : (s.setA v).joyStrobe = s.joyStrobe := rfl
@[simp] theorem setA_joyShift0 (v) : (s.setA v).joyShift0 = s.joyShift0 := rfl
@[simp] theorem setA_joyShift1 (v) : (s.setA v).joyShift1 = s.joyShift1 := rfl
@[simp] theorem setA_nmiPending (v) : (s.setA v).nmiPending = s.nmiPending := rfl
@[simp] theorem setA_ppu (v) : (s.setA v).ppu = s.ppu := rfl
@[simp] theorem setA_apu (v) : (s.setA v).apu = s.apu := rfl
@[simp] theorem setA_mapper (v) : (s.setA v).mapper = s.mapper := rfl
@[simp] theorem setA_buttons0 (v) : (s.setA v).buttons0 = s.buttons0 := rfl
@[simp] theorem setA_buttons1 (v) : (s.setA v).buttons1 = s.buttons1 := rfl
@[simp] theorem setA_frameCompleted (v) : (s.setA v).frameCompleted = s.frameCompleted := rfl
@[simp] theorem setA_samples (v) : (s.setA v).samples = s.samples := rfl
@[simp] theorem setA_cart (v) : (s.setA v).cart = s.cart := rfl
@[simp] theorem setA_params (v) : (s.setA v).params = s.params := rfl

/-! `setX` -/

@[simp] theorem setX_a (v) : (s.setX v).a = s.a := rfl
@[simp] theorem setX_x (v) : (s.setX v).x = v := rfl
@[simp] theorem setX_y (v) : (s.setX v).y = s.y := rfl
@[simp] theorem setX_sp (v) : (s.setX v).sp = s.sp := rfl
@[simp] theorem setX_pc (v) : (s.setX v).pc = s.pc := rfl
@[simp] theorem setX_p (v) : (s.setX v).p = s.p := rfl
@[simp] theorem setX_cyc (v) : (s.setX v).cyc = s.cyc := rfl
@[simp] theorem setX_fault (v) : (s.setX v).fault = s.fault := rfl
@[simp] theorem setX_ram (v) : (s.setX v).ram = s.ram := rfl
@[simp] theorem setX_db (v) : (s.setX v).db = s.db := rfl
@[simp] theorem setX_joyStrobe (v) : (s.setX v).joyStrobe = s.joyStrobe := rfl
@[simp] theorem setX_joyShift0 (v) : (s.setX v).joyShift0 = s.joyShift0 := rfl
@[simp] theorem setX_joyShift1 (v) : (s.setX v).joyShift1 = s.joyShift1 := rfl
@[simp] theorem setX_nmiPending (v) : (s.setX v).nmiPending = s.nmiPending := rfl
@[simp] theorem setX_ppu (v) : (s.setX v).ppu = s.ppu := rfl
@[simp] theorem setX_apu (v) : (s.setX v).apu = s.apu := rfl
@[simp] theorem setX_mapper (v) : (s.setX v).mapper = s.mapper := rfl
@[simp] theorem setX_buttons0 (v) : (s.setX v).buttons0 = s.buttons0 := rfl
@[simp] theorem setX_buttons1 (v) : (s.setX v).buttons1 = s.buttons1 := rfl
@[simp] theorem setX_frameCompleted (v) : (s.setX v).frameCompleted = s.frameCompleted := rfl
@[simp] theorem setX_samples (v) : (s.setX v).samples = s.samples := rfl
@[simp] theorem setX_cart (v) : (s.setX v).cart = s.cart := rfl
@[simp] theorem setX_params (v) : (s.setX v).params = s.params := rfl

/-! `setY` -/

@[simp] theorem setY_a (v) : (s.setY v).a = s.a := rfl
@[simp] theorem setY_x (v) : (s.setY v).x = s.x := rfl
@[simp] theorem setY_y (v) : (s.setY v).y = v := rfl
@[simp] theorem setY_sp (v) : (s.setY v).sp = s.sp := rfl
@[simp] theorem setY_pc (v) : (s.setY v).pc = s.pc := rfl
@[simp] theorem setY_p (v) : (s.setY v).p = s.p := rfl
@[simp] theorem setY_cyc (v) : (s.setY v).cyc = s.cyc := rfl
@[simp] theorem setY_fault (v) : (s.setY v).fault = s.fault := rfl
@[simp] theorem setY_ram (v) : (s.setY v).ram = s.ram := rfl
@[simp] theorem setY_db (v) : (s.setY v).db = s.db := rfl
@[simp] theorem setY_joyStrobe (v) : (s.setY v).joyStrobe = s.joyStrobe := rfl
@[simp] theorem setY_joyShift0 (v) : (s.setY v).joyShift0 = s.joyShift0 := rfl
@[simp] theorem setY_joyShift1 (v) : (s.setY v).joyShift1 = s.joyShift1 := rfl
@[simp] theorem setY_nmiPending (v) : (s.setY v).nmiPending = s.nmiPending := rfl
@[simp] theorem setY_ppu (v) : (s.setY v).ppu = s.ppu := rfl
@[simp] theorem setY_apu (v) : (s.setY v).apu = s.apu := rfl
@[simp] theorem setY_mapper (v) : (s.setY v).mapper = s.mapper := rfl
@[simp] theorem setY_buttons0 (v) : (s.setY v).buttons0 = s.buttons0 := rfl
@[simp] theorem setY_buttons1 (v) : (s.setY v).buttons1 = s.buttons1 := rfl
@[simp] theorem setY_frameCompleted (v) : (s.setY v).frameCompleted = s.frameCompleted := rfl
@[simp] theorem setY_samples (v) : (s.setY v).samples = s.samples := rfl
@[simp] theorem setY_cart (v) : (s.setY v).cart = s.cart := rfl
@[simp] theorem setY_params (v) : (s.setY v).params = s.params := rfl

/-! `setSp` -/

@[simp] theorem setSp_a (v) : (s.setSp v).a = s.a := rfl
@[simp] theorem setSp_x (v) : (s.setSp v).x = s.x := rfl
@[simp] theorem setSp_y (v) : (s.setSp v).y = s.y := rfl
@[simp] theorem setSp_sp (v) : (s.setSp v).sp = v := rfl
@[simp] theorem setSp_pc (v) : (s.setSp v).pc = s.pc := rfl
@[simp] theorem setSp_p (v) : (s.setSp v).p = s.p := rfl
@[simp] theorem setSp_cyc (v) : (s.setSp v).cyc = s.cyc := rfl
@[simp] theorem setSp_fault (v) : (s.setSp v).fault = s.fault := rfl
@[simp] theorem setSp_ram (v) : (s.setSp v).ram = s.ram := rfl
@[simp] theorem setSp_db (v) : (s.setSp v).db = s.db := rfl
@[simp] theorem setSp_joyStrobe (v) : (s.setSp v).joyStrobe = s.joyStrobe := rfl
@[simp] theorem setSp_joyShift0 (v) : (s.setSp v).joyShift0 = s.joyShift0 := rfl
@[simp] theorem setSp_joyShift1 (v) : (s.setSp v).joyShift1 = s.joyShift1 := rfl
@[simp] theorem setSp_nmiPending (v) : (s.setSp v).nmiPending = s.nmiPending := rfl
@[simp] theorem setSp_ppu (v) : (s.setSp v).ppu = s.ppu := rfl
@[simp] theorem setSp_apu (v) : (s.setSp v).apu = s.apu := rfl
@[simp] theorem setSp_mapper (v) : (s.setSp v).mapper = s.mapper := rfl
@[simp] theorem setSp_buttons0 (v) : (s.setSp v).buttons0 = s.buttons0 := rfl
@[simp] theorem setSp_buttons1 (v) : (s.setSp v).buttons1 = s.buttons1 := rfl
@[simp] theorem setSp_frameCompleted (v) : (s.setSp v).frameCompleted = s.frameCompleted := rfl
@[simp] theorem setSp_samples (v) : (s.setSp v).samples = s.samples := rfl
@[simp] theorem setSp_cart (v) : (s.setSp v).cart = s.cart := rfl
@[simp] theorem setSp_params (v) : (s.setSp v).params = s.params := rfl

/-! `setPc` -/

@[simp] theorem setPc_a (v) : (s.setPc v).a = s.a := rfl
@[simp] theorem setPc_x (v) : (s.setPc v).x = s.x := rfl
@[simp] theorem setPc_y (v) : (s.setPc v).y = s.y := rfl
@[simp] theorem setPc_sp (v) : (s.setPc v).sp = s.sp := rfl
@[simp] theorem setPc_pc (v) : (s.setPc v).pc = v := rfl
@[simp] theorem setPc_p (v) : (s.setPc v).p = s.p := rfl
@[simp] theorem setPc_cyc (v) : (s.setPc v).cyc = s.cyc := rfl
@[simp] theorem setPc_fault (v) : (s.setPc v).fault = s.fault := rfl
@[simp] theorem setPc_ram (v) : (s.setPc v).ram = s.ram := rfl
@[simp] theorem setPc_db (v) : (s.setPc v).db = s.db := rfl
@[simp] theorem setPc_joyStrobe (v) : (s.setPc v).joyStrobe = s.joyStrobe := rfl
@[simp] theorem setPc_joyShift0 (v) : (s.setPc v).joyShift0 = s.joyShift0 := rfl
@[simp] theorem setPc_joyShift1 (v) : (s.setPc v).joyShift1 = s.joyShift1 := rfl
@[simp] theorem setPc_nmiPending (v) : (s.setPc v).nmiPending = s.nmiPending := rfl
@[simp] theorem setPc_ppu (v) : (s.setPc v).ppu = s.ppu := rfl
@[simp] theorem setPc_apu (v) : (s.setPc v).apu = s.apu := rfl
@[simp] theorem setPc_mapper (v) : (s.setPc v).mapper = s.mapper := rfl
@[simp] theorem setPc_buttons0 (v) : (s.setPc v).buttons0 = s.buttons0 := rfl
@[simp] theorem setPc_buttons1 (v) : (s.setPc v).buttons1 = s.buttons1 := rfl
@[simp] theorem setPc_frameCompleted (v) : (s.setPc v).frameCompleted = s.frameCompleted := rfl
@[simp] theorem setPc_samples (v) : (s.setPc v).samples = s.samples := rfl
@[simp] theorem setPc_cart (v) : (s.setPc v).cart = s.cart := rfl
@[simp] theorem setPc_params (v) : (s.setPc v).params = s.params := rfl

/-! `setP` -/

@[simp] theorem setP_a (v) : (s.setP v).a = s.a := rfl
@[simp] theorem setP_x (v) : (s.setP v).x = s.x := rfl
@[simp] theorem setP_y (v) : (s.setP v).y = s.y := rfl
@[simp] theorem setP_sp (v) : (s.setP v).sp = s.sp := rfl
@[simp] theorem setP_pc (v) : (s.setP v).pc = s.pc := rfl
@[simp] theorem setP_p (v) : (s.setP v).p = v := rfl
@[simp] theorem setP_cyc (v) : (s.setP v).cyc = s.cyc := rfl
@[simp] theorem setP_fault (v) : (s.setP v).fault = s.fault := rfl
@[simp] theorem setP_ram (v) : (s.setP v).ram = s.ram := rfl
@[simp] theorem setP_db (v) : (s.setP v).db = s.db := rfl
@[simp] theorem setP_joyStrobe (v) : (s.setP v).joyStrobe = s.joyStrobe := rfl
@[simp] theorem setP_joyShift0 (v) : (s.setP v).joyShift0 = s.joyShift0 := rfl
@[simp] theorem setP_joyShift1 (v) : (s.setP v).joyShift1 = s.joyShift1 := rfl
@[simp] theorem setP_nmiPending (v) : (s.setP v).nmiPending = s.nmiPending := rfl
@[simp] theorem setP_ppu (v) : (s.setP v).ppu = s.ppu := rfl
@[simp] theorem setP_apu (v) : (s.setP v).apu = s.apu := rfl
@[simp] theorem setP_mapper (v) : (s.setP v).mapper = s.mapper := rfl
@[simp] theorem setP_buttons0 (v) : (s.setP v).buttons0 = s.buttons0 := rfl
@[simp] theorem setP_buttons1 (v) : (s.setP v).buttons1 = s.buttons1 := rfl
@[simp] theorem setP_frameCompleted (v) : (s.setP v).frameCompleted = s.frameCompleted := rfl
@[simp] theorem setP_samples (v) : (s.setP v).samples = s.samples := rfl
@[simp] theorem setP_cart (v) : (s.setP v).cart = s.cart := rfl
@[simp] theorem setP_params (v) : (s.setP v).params = s.params := rfl

/-! `setCyc` -/

@[simp] theorem setCyc_a (v) : (s.setCyc v).a = s.a := rfl
@[simp] theorem setCyc_x (v) : (s.setCyc v).x = s.x := rfl
@[simp] theorem setCyc_y (v) : (s.setCyc v).y = s.y := rfl
@[simp] theorem setCyc_sp (v) : (s.setCyc v).sp = s.sp := rfl
@[simp] theorem setCyc_pc (v) : (s.setCyc v).pc = s.pc := rfl
@[simp] theorem setCyc_p (v) : (s.setCyc v).p = s.p := rfl
@[simp] theorem setCyc_cyc (v) : (s.setCyc v).cyc = v := rfl
@[simp] theorem setCyc_fault (v) : (s.setCyc v).fault = s.fault := rfl
@[simp] theorem setCyc_ram (v) : (s.setCyc v).ram = s.ram := rfl
@[simp] theorem setCyc_db (v) : (s.setCyc v).db = s.db := rfl
@[simp] theorem setCyc_joyStrobe (v) : (s.setCyc v).joyStrobe = s.joyStrobe := rfl
@[simp] theorem setCyc_joyShift0 (v) : (s.setCyc v).joyShift0 = s.joyShift0 := rfl
@[simp] theorem setCyc_joyShift1 (v) : (s.setCyc v).joyShift1 = s.joyShift1 := rfl
@[simp] theorem setCyc_nmiPending (v) : (s.setCyc v).nmiPending = s.nmiPending := rfl
@[simp] theorem setCyc_ppu (v) : (s.setCyc v).ppu = s.ppu := rfl
@[simp] theorem setCyc_apu (v) : (s.setCyc v).apu = s.apu := rfl
@[simp] theorem setCyc_mapper (v) : (s.setCyc v).mapper = s.mapper := rfl
@[simp] theorem setCyc_buttons0 (v) : (s.setCyc v).buttons0 = s.buttons0 := rfl
@[simp] theorem setCyc_buttons1 (v) : (s.setCyc v).buttons1 = s.buttons1 := rfl
@[simp] theorem setCyc_frameCompleted (v) : (s.setCyc v).frameCompleted = s.frameCompleted := rfl
@[simp] theorem setCyc_samples (v) : (s.setCyc v).samples = s.samples := rfl
@[simp] theorem setCyc_cart (v) : (s.setCyc v).cart = s.cart := rfl
@[simp] theorem setCyc_params (v) : (s.setCyc v).params = s.params := rfl

/-! `setFault` -/

@[simp] theorem setFault_a (v) : (s.setFault v).a = s.a := rfl
@[simp] theorem setFault_x (v) : (s.setFault v).x = s.x := rfl
@[simp] theorem setFault_y (v) : (s.setFault v).y = s.y := rfl
@[simp] theorem setFault_sp (v) : (s.setFault v).sp = s.sp := rfl
@[simp] theorem setFault_pc (v) : (s.setFault v).pc = s.pc := rfl
@[simp] theorem setFault_p (v) : (s.setFault v).p = s.p := rfl
@[simp] theorem setFault_cyc (v) : (s.setFault v).cyc = s.cyc := rfl
@[simp] theorem setFault_fault (v) : (s.setFault v).fault = v := rfl
@[simp] theorem setFault_ram (v) : (s.setFault v).ram = s.ram := rfl
@[simp] theorem setFault_db (v) : (s.setFault v).db = s.db := rfl
@[simp] theorem setFault_joyStrobe (v) : (s.setFault v).joyStrobe = s.joyStrobe := rfl
@[simp] theorem setFault_joyShift0 (v) : (s.setFault v).joyShift0 = s.joyShift0 := rfl
@[simp] theorem setFault_joyShift1 (v) : (s.setFault v).joyShift1 = s.joyShift1 := rfl
@[simp] theorem setFault_nmiPending (v) : (s.setFault v).nmiPending = s.nmiPending := rfl
@[simp] theorem setFault_ppu (v) : (s.setFault v).ppu = s.ppu := rfl
@[simp] theorem setFault_apu (v) : (s.setFault v).apu = s.apu := rfl
@[simp] theorem setFault_mapper (v) : (s.setFault v).mapper = s.mapper := rfl
@[simp] theorem setFault_buttons0 (v) : (s.setFault v).buttons0 = s.buttons0 := rfl
@[simp] theorem setFault_buttons1 (v) : (s.setFault v).buttons1 = s.buttons1 := rfl
@[simp] theorem setFault_frameCompleted (v) : (s.setFault v).frameCompleted = s.frameCompleted := rfl
@[simp] theorem setFault_samples (v) : (s.setFault v).samples = s.samples := rfl
@[simp] theorem setFault_cart (v) : (s.setFault v).cart = s.cart := rfl
@[simp] theorem setFault_params (v) : (s.setFault v).params = s.params := rfl

/-! `setRam` -/

@[simp] theorem setRam_a (v) : (s.setRam v).a = s.a := rfl
@[simp] theorem setRam_x (v) : (s.setRam v).x = s.x := rfl
@[simp] theorem setRam_y (v) : (s.setRam v).y = s.y := rfl
@[simp] theorem setRam_sp (v) : (s.setRam v).sp = s.sp := rfl
@[simp] theorem setRam_pc (v) : (s.setRam v).pc = s.pc := rfl
@[simp] theorem setRam_p (v) : (s.setRam v).p = s.p := rfl
@[simp] theorem setRam_cyc (v) : (s.setRam v).cyc = s.cyc := rfl
@[simp] theorem setRam_fault (v) : (s.setRam v).fault = s.fault := rfl
@[simp] theorem setRam_ram (v) : (s.setRam v).ram = v := rfl
@[simp] theorem setRam_db (v) : (s.setRam v).db = s.db := rfl
@[simp] theorem setRam_joyStrobe (v) : (s.setRam v).joyStrobe = s.joyStrobe := rfl
@[simp] theorem setRam_joyShift0 (v) : (s.setRam v).joyShift0 = s.joyShift0 := rfl
@[simp] theorem setRam_joyShift1 (v) : (s.setRam v).joyShift1 = s.joyShift1 := rfl
@[simp] theorem setRam_nmiPending (v) : (s.setRam v).nmiPending = s.nmiPending := rfl
@[simp] theorem setRam_ppu (v) : (s.setRam v).ppu = s.ppu := rfl
@[simp] theorem setRam_apu (v) : (s.setRam v).apu = s.apu := rfl
@[simp] theorem setRam_mapper (v) : (s.setRam v).mapper = s.mapper := rfl
@[simp] theorem setRam_buttons0 (v) : (s.setRam v).buttons0 = s.buttons0 := rfl
@[simp] theorem setRam_buttons1 (v) : (s.setRam v).buttons1 = s.buttons1 := rfl
@[simp] theorem setRam_frameCompleted (v) : (s.setRam v).frameCompleted = s.frameCompleted := rfl
@[simp] theorem setRam_samples (v) : (s.setRam v).samples = s.samples := rfl
@[simp] theorem setRam_cart (v) : (s.setRam v).cart = s.cart := rfl
@[simp] theorem setRam_params (v) : (s.setRam v).params = s.params := rfl

/-! `setDb` -/

@[simp] theorem setDb_a (v) : (s.setDb v).a = s.a := rfl
@[simp] theorem setDb_x (v) : (s.setDb v).x = s.x := rfl
@[simp] theorem setDb_y (v) : (s.setDb v).y = s.y := rfl
@[simp] theorem setDb_sp (v) : (s.setDb v).sp = s.sp := rfl
@[simp] theorem setDb_pc (v) : (s.setDb v).pc = s.pc := rfl
@[simp] theorem setDb_p (v) : (s.setDb v).p = s.p := rfl
@[simp] theorem setDb_cyc (v) : (s.setDb v).cyc = s.cyc := rfl
@[simp] theorem setDb_fault (v) : (s.setDb v).fault = s.fault := rfl
@[simp] theorem setDb_ram (v) : (s.setDb v).ram = s.ram := rfl
@[simp] theorem setDb_db (v) : (s.setDb v).db = v := rfl
@[simp] theorem setDb_joyStrobe (v) : (s.setDb v).joyStrobe = s.joyStrobe := rfl
@[simp] theorem setDb_joyShift0 (v) : (s.setDb v).joyShift0 = s.joyShift0 := rfl
@[simp] theorem setDb_joyShift1 (v) : (s.setDb v).joyShift1 = s.joyShift1 := rfl
@[simp] theorem setDb_nmiPending (v) : (s.setDb v).nmiPending = s.nmiPending := rfl
@[simp] theorem setDb_ppu (v) : (s.setDb v).ppu = s.ppu := rfl
@[simp] theorem setDb_apu (v) : (s.setDb v).apu = s.apu := rfl
@[simp] theorem setDb_mapper (v) : (s.setDb v).mapper = s.mapper := rfl
@[simp] theorem setDb_buttons0 (v) : (s.setDb v).buttons0 = s.buttons0 := rfl
@[simp] theorem setDb_buttons1 (v) : (s.setDb v).buttons1 = s.buttons1 := rfl
@[simp] theorem setDb_frameCompleted (v) : (s.setDb v).frameCompleted = s.frameCompleted := rfl
@[simp] theorem setDb_samples (v) : (s.setDb v).samples = s.samples := rfl
@[simp] theorem setDb_cart (v) : (s.setDb v).cart = s.cart := rfl
@[simp] theorem setDb_params (v) : (s.setDb v).params = s.params := rfl

/-! `setJoyStrobe` -/

@[simp] theorem setJoyStrobe_a (v) : (s.setJoyStrobe v).a = s.a := rfl
@[simp] theorem setJoyStrobe_x (v) : (s.setJoyStrobe v).x = s.x := rfl
@[simp] theorem setJoyStrobe_y (v) : (s.setJoyStrobe v).y = s.y := rfl
@[simp] theorem setJoyStrobe_sp (v) : (s.setJoyStrobe v).sp = s.sp := rfl
@[simp] theorem setJoyStrobe_pc (v) : (s.setJoyStrobe v).pc = s.pc := rfl
@[simp] theorem setJoyStrobe_p (v) : (s.setJoyStrobe v).p = s.p := rfl
@[simp] theorem setJoyStrobe_cyc (v) : (s.setJoyStrobe v).cyc = s.cyc := rfl
@[simp] theorem setJoyStrobe_fault (v) : (s.setJoyStrobe v).fault = s.fault := rfl
@[simp] theorem setJoyStrobe_ram (v) : (s.setJoyStrobe v).ram = s.ram := rfl
@[simp] theorem setJoyStrobe_db (v) : (s.setJoyStrobe v).db = s.db := rfl
@[simp] theorem setJoyStrobe_joyStrobe (v) : (s.setJoyStrobe v).joyStrobe = v := rfl
@[simp] theorem setJoyStrobe_joyShift0 (v) : (s.setJoyStrobe v).joyShift0 = s.joyShift0 := rfl
@[simp] theorem setJoyStrobe_joyShift1 (v) : (s.setJoyStrobe v).joyShift1 = s.joyShift1 := rfl
@[simp] theorem setJoyStrobe_nmiPending (v) : (s.setJoyStrobe v).nmiPending = s.nmiPending := rfl
@[simp] theorem setJoyStrobe_ppu (v) : (s.setJoyStrobe v).ppu = s.ppu := rfl
@[simp] theorem setJoyStrobe_apu (v) : (s.setJoyStrobe v).apu = s.apu := rfl
@[simp] theorem setJoyStrobe_mapper (v) : (s.setJoyStrobe v).mapper = s.mapper := rfl
@[simp] theorem setJoyStrobe_buttons0 (v) : (s.setJoyStrobe v).buttons0 = s.buttons0 := rfl
@[simp] theorem setJoyStrobe_buttons1 (v) : (s.setJoyStrobe v).buttons1 = s.buttons1 := rfl
@[simp] theorem setJoyStrobe_frameCompleted (v) : (s.setJoyStrobe v).frameCompleted = s.frameCompleted := rfl
@[simp] theorem setJoyStrobe_samples (v) : (s.setJoyStrobe v).samples = s.samples := rfl
@[simp] theorem setJoyStrobe_cart (v) : (s.setJoyStrobe v).cart = s.cart := rfl
@[simp] theorem setJoyStrobe_params (v) : (s.setJoyStrobe v).params = s.params := rfl

/-! `setJoyShift0` -/

@[simp] theorem setJoyShift0_a (v) : (s.setJoyShift0 v).a = s.a := rfl
@[simp] theorem setJoyShift0_x (v) : (s.setJoyShift0 v).x = s.x := rfl
@[simp] theorem setJoyShift0_y (v) : (s.setJoyShift0 v).y = s.y := rfl
@[simp] theorem setJoyShift0_sp (v) : (s.setJoyShift0 v).sp = s.sp := rfl
@[simp] theorem setJoyShift0_pc (v) : (s.setJoyShift0 v).pc = s.pc := rfl
@[simp] theorem setJoyShift0_p (v) : (s.setJoyShift0 v).p = s.p := rfl
@[simp] theorem setJoyShift0_cyc (v) : (s.setJoyShift0 v).cyc = s.cyc := rfl
@[simp] theorem setJoyShift0_fault (v) : (s.setJoyShift0 v).fault = s.fault := rfl
@[simp] theorem setJoyShift0_ram (v) : (s.setJoyShift0 v).ram = s.ram := rfl
@[simp] theorem setJoyShift0_db (v) : (s.setJoyShift0 v).db = s.db := rfl
@[simp] theorem setJoyShift0_joyStrobe (v) : (s.setJoyShift0 v).joyStrobe = s.joyStrobe := rfl
@[simp] theorem setJoyShift0_joyShift0 (v) : (s.setJoyShift0 v).joyShift0 = v := rfl
@[simp] theorem setJoyShift0_joyShift1 (v) : (s.setJoyShift0 v).joyShift1 = s.joyShift1 := rfl
@[simp] theorem setJoyShift0_nmiPending (v) : (s.setJoyShift0 v).nmiPending = s.nmiPending := rfl
@[simp] theorem setJoyShift0_ppu (v) : (s.setJoyShift0 v).ppu = s.ppu := rfl
@[simp] theorem setJoyShift0_apu (v) : (s.setJoyShift0 v).apu = s.apu := rfl
@[simp] theorem setJoyShift0_mapper (v) : (s.setJoyShift0 v).mapper = s.mapper := rfl
@[simp] theorem setJoyShift0_buttons0 (v) : (s.setJoyShift0 v).buttons0 = s.buttons0 := rfl
@[simp] theorem setJoyShift0_buttons1 (v) : (s.setJoyShift0 v).buttons1 = s.buttons1 := rfl
@[simp] theorem setJoyShift0_frameCompleted (v) : (s.setJoyShift0 v).frameCompleted = s.frameCompleted := rfl
@[simp] theorem setJoyShift0_samples (v) : (s.setJoyShift0 v).samples = s.samples := rfl
@[simp] theorem setJoyShift0_cart (v) : (s.setJoyShift0 v).cart = s.cart := rfl
@[simp] theorem setJoyShift0_params (v) : (s.setJoyShift0 v).params = s.params := rfl

/-! `setJoyShift1` -/

@[simp] theorem setJoyShift1_a (v) : (s.setJoyShift1 v).a = s.a := rfl
@[simp] theorem setJoyShift1_x (v) : (s.setJoyShift1 v).x = s.x := rfl
@[simp] theorem setJoyShift1_y (v) : (s.setJoyShift1 v).y = s.y := rfl
@[simp] theorem setJoyShift1_sp (v) : (s.setJoyShift1 v).sp = s.sp := rfl
@[simp] theorem setJoyShift1_pc (v) : (s.setJoyShift1 v).pc = s.pc := rfl
@[simp] theorem setJoyShift1_p (v) : (s.setJoyShift1 v).p = s.p := rfl
@[simp] theorem setJoyShift1_cyc (v) : (s.setJoyShift1 v).cyc = s.cyc := rfl
@[simp] theorem setJoyShift1_fault (v) : (s.setJoyShift1 v).fault = s.fault := rfl
@[simp] theorem setJoyShift1_ram (v) : (s.setJoyShift1 v).ram = s.ram := rfl
@[simp] theorem setJoyShift1_db (v) : (s.setJoyShift1 v).db = s.db := rfl
@[simp] theorem setJoyShift1_joyStrobe (v) : (s.setJoyShift1 v).joyStrobe = s.joyStrobe := rfl
@[simp] theorem setJoyShift1_joyShift0 (v) : (s.setJoyShift1 v).joyShift0 = s.joyShift0 := rfl
@[simp] theorem setJoyShift1_joyShift1 (v) : (s.setJoyShift1 v).joyShift1 = v := rfl
@[simp] theorem setJoyShift1_nmiPending (v) : (s.setJoyShift1 v).nmiPending = s.nmiPending := rfl
@[simp] theorem setJoyShift1_ppu (v) : (s.setJoyShift1 v).ppu = s.ppu := rfl
@[simp] theorem setJoyShift1_apu (v) : (s.setJoyShift1 v).apu = s.apu := rfl
@[simp] theorem setJoyShift1_mapper (v) : (s.setJoyShift1 v).mapper = s.mapper := rfl
@[simp] theorem setJoyShift1_buttons0 (v) : (s.setJoyShift1 v).buttons0 = s.buttons0 := rfl
@[simp] theorem setJoyShift1_buttons1 (v) : (s.setJoyShift1 v).buttons1 = s.buttons1 := rfl
@[simp] theorem setJoyShift1_frameCompleted (v) : (s.setJoyShift1 v).frameCompleted = s.frameCompleted := rfl
@[simp] theorem setJoyShift1_samples (v) : (s.setJoyShift1 v).samples = s.samples := rfl
@[simp] theorem setJoyShift1_cart (v) : (s.setJoyShift1 v).cart = s.cart := rfl
@[simp] theorem setJoyShift1_params (v) : (s.setJoyShift1 v).params = s.params := rfl

/-! `setNmiPending` -/

@[simp] theorem setNmiPending_a (v) : (s.setNmiPending v).a = s.a := rfl
@[simp] theorem setNmiPending_x (v) : (s.setNmiPending v).x = s.x := rfl
@[simp] theorem setNmiPending_y (v) : (s.setNmiPending v).y = s.y := rfl
@[simp] theorem setNmiPending_sp (v) : (s.setNmiPending v).sp = s.sp := rfl
@[simp] theorem setNmiPending_pc (v) : (s.setNmiPending v).pc = s.pc := rfl
@[simp] theorem setNmiPending_p (v) : (s.setNmiPending v).p = s.p := rfl
@[simp] theorem setNmiPending_cyc (v) : (s.setNmiPending v).cyc = s.cyc := rfl
@[simp] theorem setNmiPending_fault (v) : (s.setNmiPending v).fault = s.fault := rfl
@[simp] theorem setNmiPending_ram (v) : (s.setNmiPending v).ram = s.ram := rfl
@[simp] theorem setNmiPending_db (v) : (s.setNmiPending v).db = s.db := rfl
@[simp] theorem setNmiPending_joyStrobe (v) : (s.setNmiPending v).joyStrobe = s.joyStrobe := rfl
@[simp] theorem setNmiPending_joyShift0 (v) : (s.setNmiPending v).joyShift0 = s.joyShift0 := rfl
@[simp] theorem setNmiPending_joyShift1 (v) : (s.setNmiPending v).joyShift1 = s.joyShift1 := rfl
@[simp] theorem setNmiPending_nmiPending (v) : (s.setNmiPending v).nmiPending = v := rfl
@[simp] theorem setNmiPending_ppu (v) : (s.setNmiPending v).ppu = s.ppu := rfl
@[simp] theorem setNmiPending_apu (v) : (s.setNmiPending v).apu = s.apu := rfl
@[simp] theorem setNmiPending_mapper (v) : (s.setNmiPending v).mapper = s.mapper := rfl
@[simp] theorem setNmiPending_buttons0 (v) : (s.setNmiPending v).buttons0 = s.buttons0 := rfl
@[simp] theorem setNmiPending_buttons1 (v) : (s.setNmiPending v).buttons1 = s.buttons1 := rfl
@[simp] theorem setNmiPending_frameCompleted (v) : (s.setNmiPending v).frameCompleted = s.frameCompleted := rfl
@[simp] theorem setNmiPending_samples (v) : (s.setNmiPending v).samples = s.samples := rfl
@[simp] theorem setNmiPending_cart (v) : (s.setNmiPending v).cart = s.cart := rfl
@[simp] theorem setNmiPending_params (v) : (s.setNmiPending v).params = s.params := rfl

/-! `setPpu` -/

@[simp] theorem setPpu_a (v) : (s.setPpu v).a = s.a := rfl
@[simp] theorem setPpu_x (v) : (s.setPpu v).x = s.x := rfl
@[simp] theorem setPpu_y (v) : (s.setPpu v).y = s.y := rfl
@[simp] theorem setPpu_sp (v) : (s.setPpu v).sp = s.sp := rfl
@[simp] theorem setPpu_pc (v) : (s.setPpu v).pc = s.pc := rfl
@[simp] theorem setPpu_p (v) : (s.setPpu v).p = s.p := rfl
@[simp] theorem setPpu_cyc (v) : (s.setPpu v).cyc = s.cyc := rfl
@[simp] theorem setPpu_fault (v) : (s.setPpu v).fault = s.fault := rfl
@[simp] theorem setPpu_ram (v) : (s.setPpu v).ram = s.ram := rfl
@[simp] theorem setPpu_db (v) : (s.setPpu v).db = s.db := rfl
@[simp] theorem setPpu_joyStrobe (v) : (s.setPpu v).joyStrobe = s.joyStrobe := rfl
@[simp] theorem setPpu_joyShift0 (v) : (s.setPpu v).joyShift0 = s.joyShift0 := rfl
@[simp] theorem setPpu_joyShift1 (v) : (s.setPpu v).joyShift1 = s.joyShift1 := rfl
@[simp] theorem setPpu_nmiPending (v) : (s.setPpu v).nmiPending = s.nmiPending := rfl
@[simp] theorem setPpu_ppu (v) : (s.setPpu v).ppu = v := rfl
@[simp] theorem setPpu_apu (v) : (s.setPpu v).apu = s.apu := rfl
@[simp] theorem setPpu_mapper (v) : (s.setPpu v).mapper = s.mapper := rfl
@[simp] theorem setPpu_buttons0 (v) : (s.setPpu v).buttons0 = s.buttons0 := rfl
@[simp] theorem setPpu_buttons1 (v) : (s.setPpu v).buttons1 = s.buttons1 := rfl
@[simp] theorem setPpu_frameCompleted (v) : (s.setPpu v).frameCompleted = s.frameCompleted := rfl
@[simp] theorem setPpu_samples (v) : (s.setPpu v).samples = s.samples := rfl
@[simp] theorem setPpu_cart (v) : (s.setPpu v).cart = s.cart := rfl
@[simp] theorem setPpu_params (v) : (s.setPpu v).params = s.params := rfl

/-! `setApu` -/

@[simp] theorem setApu_a (v) : (s.setApu v).a = s.a := rfl
@[simp] theorem setApu_x (v) : (s.setApu v).x = s.x := rfl
@[simp] theorem setApu_y (v) : (s.setApu v).y = s.y := rfl
@[simp] theorem setApu_sp (v) : (s.setApu v).sp = s.sp := rfl
@[simp] theorem setApu_pc (v) : (s.setApu v).pc = s.pc := rfl
@[simp] theorem setApu_p (v) : (s.setApu v).p = s.p := rfl
@[simp] theorem setApu_cyc (v) : (s.setApu v).cyc = s.cyc := rfl
@[simp] theorem setApu_fault (v) : (s.setApu v).fault = s.fault := rfl
@[simp] theorem setApu_ram (v) : (s.setApu v).ram = s.ram := rfl
@[simp] theorem setApu_db (v) : (s.setApu v).db = s.db := rfl
@[simp] theorem setApu_joyStrobe (v) : (s.setApu v).joyStrobe = s.joyStrobe := rfl
@[simp] theorem setApu_joyShift0 (v) : (s.setApu v).joyShift0 = s.joyShift0 := rfl
@[simp] theorem setApu_joyShift1 (v) : (s.setApu v).joyShift1 = s.joyShift1 := rfl
@[simp] theorem setApu_nmiPending (v) : (s.setApu v).nmiPending = s.nmiPending := rfl
@[simp] theorem setApu_ppu (v) : (s.setApu v).ppu = s.ppu := rfl
@[simp] theorem setApu_apu (v) : (s.setApu v).apu = v := rfl
@[simp] theorem setApu_mapper (v) : (s.setApu v).mapper = s.mapper := rfl
@[simp] theorem setApu_buttons0 (v) : (s.setApu v).buttons0 = s.buttons0 := rfl
@[simp] theorem setApu_buttons1 (v) : (s.setApu v).buttons1 = s.buttons1 := rfl
@[simp] theorem setApu_frameCompleted (v) : (s.setApu v).frameCompleted = s.frameCompleted := rfl
@[simp] theorem setApu_samples (v) : (s.setApu v).samples = s.samples := rfl
@[simp] theorem setApu_cart (v) : (s.setApu v).cart = s.cart := rfl
@[simp] theorem setApu_params (v) : (s.setApu v).params = s.params := rfl

/-! `setMapper` -/

@[simp] theorem setMapper_a (v) : (s.setMapper v).a = s.a := rfl
@[simp] theorem setMapper_x (v) : (s.setMapper v).x = s.x := rfl
@[simp] theorem setMapper_y (v) : (s.setMapper v).y = s.y := rfl
@[simp] theorem setMapper_sp (v) : (s.setMapper v).sp = s.sp := rfl
@[simp] theorem setMapper_pc (v) : (s.setMapper v).pc = s.pc := rfl
@[simp] theorem setMapper_p (v) : (s.setMapper v).p = s.p := rfl
@[simp] theorem setMapper_cyc (v) : (s.setMapper v).cyc = s.cyc := rfl
@[simp] theorem setMapper_fault (v) : (s.setMapper v).fault = s.fault := rfl
@[simp] theorem setMapper_ram (v) : (s.setMapper v).ram = s.ram := rfl
@[simp] theorem setMapper_db (v) : (s.setMapper v).db = s.db := rfl
@[simp] theorem setMapper_joyStrobe (v) : (s.setMapper v).joyStrobe = s.joyStrobe := rfl
@[simp] theorem setMapper_joyShift0 (v) : (s.setMapper v).joyShift0 = s.joyShift0 := rfl
@[simp] theorem setMapper_joyShift1 (v) : (s.setMapper v).joyShift1 = s.joyShift1 := rfl
@[simp] theorem setMapper_nmiPending (v) : (s.setMapper v).nmiPending = s.nmiPending := rfl
@[simp] theorem setMapper_ppu (v) : (s.setMapper v).ppu = s.ppu := rfl
@[simp] theorem setMapper_apu (v) : (s.setMapper v).apu = s.apu := rfl
@[simp] theorem setMapper_mapper (v) : (s.setMapper v).mapper = v := rfl
@[simp] theorem setMapper_buttons0 (v) : (s.setMapper v).buttons0 = s.buttons0 := rfl
@[simp] theorem setMapper_buttons1 (v) : (s.setMapper v).buttons1 = s.buttons1 := rfl
@[simp] theorem setMapper_frameCompleted (v) : (s.setMapper v).frameCompleted = s.frameCompleted := rfl
@[simp] theorem setMapper_samples (v) : (s.setMapper v).samples = s.samples := rfl
@[simp] theorem setMapper_cart (v) : (s.setMapper v).cart = s.cart := rfl
@[simp] theorem setMapper_params (v) : (s.setMapper v).params = s.params := rfl

/-! `setButtons0` -/

@[simp] theorem setButtons0_a (v) : (s.setButtons0 v).a = s.a := rfl
@[simp] theorem setButtons0_x (v) : (s.setButtons0 v).x = s.x := rfl
@[simp] theorem setButtons0_y (v) : (s.setButtons0 v).y = s.y := rfl
@[simp] theorem setButtons0_sp (v) : (s.setButtons0 v).sp = s.sp := rfl
@[simp] theorem setButtons0_pc (v) : (s.setButtons0 v).pc = s.pc := rfl
@[simp] theorem setButtons0_p (v) : (s.setButtons0 v).p = s.p := rfl
@[simp] theorem setButtons0_cyc (v) : (s.setButtons0 v).cyc = s.cyc := rfl
@[simp] theorem setButtons0_fault (v) : (s.setButtons0 v).fault = s.fault := rfl
@[simp] theorem setButtons0_ram (v) : (s.setButtons0 v).ram = s.ram := rfl
@[simp] theorem setButtons0_db (v) : (s.setButtons0 v).db = s.db := rfl
@[simp] theorem setButtons0_joyStrobe (v) : (s.setButtons0 v).joyStrobe = s.joyStrobe := rfl
@[simp] theorem setButtons0_joyShift0 (v) : (s.setButtons0 v).joyShift0 = s.joyShift0 := rfl
@[simp] theorem setButtons0_joyShift1 (v) : (s.setButtons0 v).joyShift1 = s.joyShift1 := rfl
@[simp] theorem setButtons0_nmiPending (v) : (s.setButtons0 v).nmiPending = s.nmiPending := rfl
@[simp] theorem setButtons0_ppu (v) : (s.setButtons0 v).ppu = s.ppu := rfl
@[simp] theorem setButtons0_apu (v) : (s.setButtons0 v).apu = s.apu := rfl
@[simp] theorem setButtons0_mapper (v) : (s.setButtons0 v).mapper = s.mapper := rfl
@[simp] theorem setButtons0_buttons0 (v) : (s.setButtons0 v).buttons0 = v := rfl
@[simp] theorem setButtons0_buttons1 (v) : (s.setButtons0 v).buttons1 = s.buttons1 := rfl
@[simp] theorem setButtons0_frameCompleted (v) : (s.setButtons0 v).frameCompleted = s.frameCompleted := rfl
@[simp] theorem setButtons0_samples (v) : (s.setButtons0 v).samples = s.samples := rfl
@[simp] theorem setButtons0_cart (v) : (s.setButtons0 v).cart = s.cart := rfl
@[simp] theorem setButtons0_params (v) : (s.setButtons0 v).params = s.params := rfl

/-! `setButtons1` -/

@[simp] theorem setButtons1_a (v) : (s.setButtons1 v).a = s.a := rfl
@[simp] theorem setButtons1_x (v) : (s.setButtons1 v).x = s.x := rfl
@[simp] theorem setButtons1_y (v) : (s.setButtons1 v).y = s.y := rfl
@[simp] theorem setButtons1_sp (v) : (s.setButtons1 v).sp = s.sp := rfl
@[simp] theorem setButtons1_pc (v) : (s.setButtons1 v).pc = s.pc := rfl
@[simp] theorem setButtons1_p (v) : (s.setButtons1 v).p = s.p := rfl
@[simp] theorem setButtons1_cyc (v) : (s.setButtons1 v).cyc = s.cyc := rfl
@[simp] theorem setButtons1_fault (v) : (s.setButtons1 v).fault = s.fault := rfl
@[simp] theorem setButtons1_ram (v) : (s.setButtons1 v).ram = s.ram := rfl
@[simp] theorem setButtons1_db (v) : (s.setButtons1 v).db = s.db := rfl
@[simp] theorem setButtons1_joyStrobe (v) : (s.setButtons1 v).joyStrobe = s.joyStrobe := rfl
@[simp] theorem setButtons1_joyShift0 (v) : (s.setButtons1 v).joyShift0 = s.joyShift0 := rfl
@[simp] theorem setButtons1_joyShift1 (v) : (s.setButtons1 v).joyShift1 = s.joyShift1 := rfl
@[simp] theorem setButtons1_nmiPending (v) : (s.setButtons1 v).nmiPending = s.nmiPending := rfl
@[simp] theorem setButtons1_ppu (v) : (s.setButtons1 v).ppu = s.ppu := rfl
@[simp] theorem setButtons1_apu (v) : (s.setButtons1 v).apu = s.apu := rfl
@[simp] theorem setButtons1_mapper (v) : (s.setButtons1 v).mapper = s.mapper := rfl
@[simp] theorem setButtons1_buttons0 (v) : (s.setButtons1 v).buttons0 = s.buttons0 := rfl
@[simp] theorem setButtons1_buttons1 (v) : (s.setButtons1 v).buttons1 = v := rfl
@[simp] theorem setButtons1_frameCompleted (v) : (s.setButtons1 v).frameCompleted = s.frameCompleted := rfl
@[simp] theorem setButtons1_samples (v) : (s.setButtons1 v).samples = s.samples := rfl
@[simp] theorem setButtons1_cart (v) : (s.setButtons1 v).cart = s.cart := rfl
@[simp] theorem setButtons1_params (v) : (s.setButtons1 v).params = s.params := rfl

/-! `setFrameCompleted` -/

@[simp] theorem setFrameCompleted_a (v) : (s.setFrameCompleted v).a = s.a := rfl
@[simp] theorem setFrameCompleted_x (v) : (s.setFrameCompleted v).x = s.x := rfl
@[simp] theorem setFrameCompleted_y (v) : (s.setFrameCompleted v).y = s.y := rfl
@[simp] theorem setFrameCompleted_sp (v) : (s.setFrameCompleted v).sp = s.sp := rfl
@[simp] theorem setFrameCompleted_pc (v) : (s.setFrameCompleted v).pc = s.pc := rfl
@[simp] theorem setFrameCompleted_p (v) : (s.setFrameCompleted v).p = s.p := rfl
@[simp] theorem setFrameCompleted_cyc (v) : (s.setFrameCompleted v).cyc = s.cyc := rfl
@[simp] theorem setFrameCompleted_fault (v) : (s.setFrameCompleted v).fault = s.fault := rfl
@[simp] theorem setFrameCompleted_ram (v) : (s.setFrameCompleted v).ram = s.ram := rfl
@[simp] theorem setFrameCompleted_db (v) : (s.setFrameCompleted v).db = s.db := rfl
@[simp] theorem setFrameCompleted_joyStrobe (v) : (s.setFrameCompleted v).joyStrobe = s.joyStrobe := rfl
@[simp] theorem setFrameCompleted_joyShift0 (v) : (s.setFrameCompleted v).joyShift0 = s.joyShift0 := rfl
@[simp] theorem setFrameCompleted_joyShift1 (v) : (s.setFrameCompleted v).joyShift1 = s.joyShift1 := rfl
@[simp] theorem setFrameCompleted_nmiPending (v) : (s.setFrameCompleted v).nmiPending = s.nmiPending := rfl
@[simp] theorem setFrameCompleted_ppu (v) : (s.setFrameCompleted v).ppu = s.ppu := rfl
@[simp] theorem setFrameCompleted_apu (v) : (s.setFrameCompleted v).apu = s.apu := rfl
@[simp] theorem setFrameCompleted_mapper (v) : (s.setFrameCompleted v).mapper = s.mapper := rfl
@[simp] theorem setFrameCompleted_buttons0 (v) : (s.setFrameCompleted v).buttons0 = s.buttons0 := rfl
@[simp] theorem setFrameCompleted_buttons1 (v) : (s.setFrameCompleted v).buttons1 = s.buttons1 := rfl
@[simp] theorem setFrameCompleted_frameCompleted (v) : (s.setFrameCompleted v).frameCompleted = v := rfl
@[simp] theorem setFrameCompleted_samples (v) : (s.setFrameCompleted v).samples = s.samples := rfl
@[simp] theorem setFrameCompleted_cart (v) : (s.setFrameCompleted v).cart = s.cart := rfl
@[simp] theorem setFrameCompleted_params (v) : (s.setFrameCompleted v).params = s.params := rfl

/-! `setSamples` -/

@[simp] theorem setSamples_a (v) : (s.setSamples v).a = s.a := rfl
@[simp] theorem setSamples_x (v) : (s.setSamples v).x = s.x := rfl
@[simp] theorem setSamples_y (v) : (s.setSamples v).y = s.y := rfl
@[simp] theorem setSamples_sp (v) : (s.setSamples v).sp = s.sp := rfl
@[simp] theorem setSamples_pc (v) : (s.setSamples v).pc = s.pc := rfl
@[simp] theorem setSamples_p (v) : (s.setSamples v).p = s.p := rfl
@[simp] theorem setSamples_cyc (v) : (s.setSamples v).cyc = s.cyc := rfl
@[simp] theorem setSamples_fault (v) : (s.setSamples v).fault = s.fault := rfl
@[simp] theorem setSamples_ram (v) : (s.setSamples v).ram = s.ram := rfl
@[simp] theorem setSamples_db (v) : (s.setSamples v).db = s.db := rfl
@[simp] theorem setSamples_joyStrobe (v) : (s.setSamples v).joyStrobe = s.joyStrobe := rfl
@[simp] theorem setSamples_joyShift0 (v) : (s.setSamples v).joyShift0 = s.joyShift0 := rfl
@[simp] theorem setSamples_joyShift1 (v) : (s.setSamples v).joyShift1 = s.joyShift1 := rfl
@[simp] theorem setSamples_nmiPending (v) : (s.setSamples v).nmiPending = s.nmiPending := rfl
@[simp] theorem setSamples_ppu (v) : (s.setSamples v).ppu = s.ppu := rfl
@[simp] theorem setSamples_apu (v) : (s.setSamples v).apu = s.apu := rfl
@[simp] theorem setSamples_mapper (v) : (s.setSamples v).mapper = s.mapper := rfl
@[simp] theorem setSamples_buttons0 (v) : (s.setSamples v).buttons0 = s.buttons0 := rfl
@[simp] theorem setSamples_buttons1 (v) : (s.setSamples v).buttons1 = s.buttons1 := rfl
@[simp] theorem setSamples_frameCompleted (v) : (s.setSamples v).frameCompleted = s.frameCompleted := rfl
@[simp] theorem setSamples_samples (v) : (s.setSamples v).samples = v := rfl
@[simp] theorem setSamples_cart (v) : (s.setSamples v).cart = s.cart := rfl
@[simp] theorem setSamples_params (v) : (s.setSamples v).params = s.params := rfl

end State

/-! The updates built on them: `raise`, `charge`, `advance`. -/

variable (s : State)

@[simp] theorem raise_fault (r) : (raise r s).fault = s.fault.or (some r) := rfl
@[simp] theorem raise_a (r) : (raise r s).a = s.a := rfl
@[simp] theorem raise_x (r) : (raise r s).x = s.x := rfl
@[simp] theorem raise_y (r) : (raise r s).y = s.y := rfl
@[simp] theorem raise_sp (r) : (raise r s).sp = s.sp := rfl
@[simp] theorem raise_pc (r) : (raise r s).pc = s.pc := rfl
@[simp] theorem raise_p (r) : (raise r s).p = s.p := rfl
@[simp] theorem raise_cyc (r) : (raise r s).cyc = s.cyc := rfl
@[simp] theorem raise_ram (r) : (raise r s).ram = s.ram := rfl
@[simp] theorem raise_db (r) : (raise r s).db = s.db := rfl
@[simp] theorem raise_joyStrobe (r) : (raise r s).joyStrobe = s.joyStrobe := rfl
@[simp] theorem raise_joyShift0 (r) : (raise r s).joyShift0 = s.joyShift0 := rfl
@[simp] theorem raise_joyShift1 (r) : (raise r s).joyShift1 = s.joyShift1 := rfl
@[simp] theorem raise_nmiPending (r) : (raise r s).nmiPending = s.nmiPending := rfl
@[simp] theorem raise_ppu (r) : (raise r s).ppu = s.ppu := rfl
@[simp] theorem raise_apu (r) : (raise r s).apu = s.apu := rfl
@[simp] theorem raise_mapper (r) : (raise r s).mapper = s.mapper := rfl
@[simp] theorem raise_buttons0 (r) : (raise r s).buttons0 = s.buttons0 := rfl
@[simp] theorem raise_buttons1 (r) : (raise r s).buttons1 = s.buttons1 := rfl
@[simp] theorem raise_frameCompleted (r) : (raise r s).frameCompleted = s.frameCompleted := rfl
@[simp] theorem raise_samples (r) : (raise r s).samples = s.samples := rfl
@[simp] theorem raise_cart (r) : (raise r s).cart = s.cart := rfl
@[simp] theorem raise_params (r) : (raise r s).params = s.params := rfl
@[simp] theorem charge_cyc (n) : (charge n s).cyc = s.cyc + n := rfl
@[simp] theorem charge_a (n) : (charge n s).a = s.a := rfl
@[simp] theorem charge_x (n) : (charge n s).x = s.x := rfl
@[simp] theorem charge_y (n) : (charge n s).y = s.y := rfl
@[simp] theorem charge_sp (n) : (charge n s).sp = s.sp := rfl
@[simp] theorem charge_pc (n) : (charge n s).pc = s.pc := rfl
@[simp] theorem charge_p (n) : (charge n s).p = s.p := rfl
@[simp] theorem charge_fault (n) : (charge n s).fault = s.fault := rfl
@[simp] theorem charge_ram (n) : (charge n s).ram = s.ram := rfl
@[simp] theorem charge_db (n) : (charge n s).db = s.db := rfl
@[simp] theorem charge_joyStrobe (n) : (charge n s).joyStrobe = s.joyStrobe := rfl
@[simp] theorem charge_joyShift0 (n) : (charge n s).joyShift0 = s.joyShift0 := rfl
@[simp] theorem charge_joyShift1 (n) : (charge n s).joyShift1 = s.joyShift1 := rfl
@[simp] theorem charge_nmiPending (n) : (charge n s).nmiPending = s.nmiPending := rfl
@[simp] theorem charge_ppu (n) : (charge n s).ppu = s.ppu := rfl
@[simp] theorem charge_apu (n) : (charge n s).apu = s.apu := rfl
@[simp] theorem charge_mapper (n) : (charge n s).mapper = s.mapper := rfl
@[simp] theorem charge_buttons0 (n) : (charge n s).buttons0 = s.buttons0 := rfl
@[simp] theorem charge_buttons1 (n) : (charge n s).buttons1 = s.buttons1 := rfl
@[simp] theorem charge_frameCompleted (n) : (charge n s).frameCompleted = s.frameCompleted := rfl
@[simp] theorem charge_samples (n) : (charge n s).samples = s.samples := rfl
@[simp] theorem charge_cart (n) : (charge n s).cart = s.cart := rfl
@[simp] theorem charge_params (n) : (charge n s).params = s.params := rfl
@[simp] theorem advance_pc (n) : (advance n s).pc = s.pc + BitVec.ofNat 16 n := rfl
@[simp] theorem advance_a (n) : (advance n s).a = s.a := rfl
@[simp] theorem advance_x (n) : (advance n s).x = s.x := rfl
@[simp] theorem advance_y (n) : (advance n s).y = s.y := rfl
@[simp] theorem advance_sp (n) : (advance n s).sp = s.sp := rfl
@[simp] theorem advance_p (n) : (advance n s).p = s.p := rfl
@[simp] theorem advance_cyc (n) : (advance n s).cyc = s.cyc := rfl
@[simp] theorem advance_fault (n) : (advance n s).fault = s.fault := rfl
@[simp] theorem advance_ram (n) : (advance n s).ram = s.ram := rfl
@[simp] theorem advance_db (n) : (advance n s).db = s.db := rfl
@[simp] theorem advance_joyStrobe (n) : (advance n s).joyStrobe = s.joyStrobe := rfl
@[simp] theorem advance_joyShift0 (n) : (advance n s).joyShift0 = s.joyShift0 := rfl
@[simp] theorem advance_joyShift1 (n) : (advance n s).joyShift1 = s.joyShift1 := rfl
@[simp] theorem advance_nmiPending (n) : (advance n s).nmiPending = s.nmiPending := rfl
@[simp] theorem advance_ppu (n) : (advance n s).ppu = s.ppu := rfl
@[simp] theorem advance_apu (n) : (advance n s).apu = s.apu := rfl
@[simp] theorem advance_mapper (n) : (advance n s).mapper = s.mapper := rfl
@[simp] theorem advance_buttons0 (n) : (advance n s).buttons0 = s.buttons0 := rfl
@[simp] theorem advance_buttons1 (n) : (advance n s).buttons1 = s.buttons1 := rfl
@[simp] theorem advance_frameCompleted (n) : (advance n s).frameCompleted = s.frameCompleted := rfl
@[simp] theorem advance_samples (n) : (advance n s).samples = s.samples := rfl
@[simp] theorem advance_cart (n) : (advance n s).cart = s.cart := rfl
@[simp] theorem advance_params (n) : (advance n s).params = s.params := rfl

end Sys2Proof.Machine
end

