-- ==== Sys2Proof/Laws/Bus.lean ====
section
/-! SUPPORT. What a bus access can change: one lemma for a read, one for a write, and the lemmas per field that follow
from them. The stack, the fetch and the vectors are made of these accesses. -/

namespace Sys2Proof.Machine

/-! ## The PPU bus -/

theorem chrRead_state (a : PpuAddr) (s : State) :
    (chrRead a s).2 = s ∨ ∃ r, (chrRead a s).2 = raise r s := by
  simp only [chrRead]
  split
  · exact .inl rfl
  · exact .inr ⟨_, rfl⟩

/-- A PPU read changes nothing, but for the fault it can raise. -/
theorem ppuRead_state (a : PpuAddr) (s : State) :
    (ppuRead a s).2 = s ∨ ∃ r, (ppuRead a s).2 = raise r s := by
  unfold ppuRead
  split
  · exact chrRead_state a s
  · split <;> exact .inl rfl

/-- What a PPU read can change, as one record. -/
theorem ppuRead_cases (a : PpuAddr) (s : State) : ∃ f, (ppuRead a s).2 = s.setFault f := by
  rcases ppuRead_state a s with h | ⟨r, h⟩
  · exact ⟨s.fault, h⟩
  · exact ⟨_, h⟩

/-! ## A read of the CPU bus -/

/-- What a CPU read can change: `db`, the read side effects of R214, and the fault latch. -/
theorem read8_cases (a : Addr) (s : State) :
    ∃ f db v rb io vb w vs fi j0 j1,
      (read8 a s).2 =
        { s with
          fault := f
          db := db
          ppu := { s.ppu with v := v, readBuffer := rb, ioLatch := io, vblank := vb, w := w, vblSuppress := vs }
          apu := { s.apu with frameIrq := fi }
          joyShift0 := j0
          joyShift1 := j1 } := by
  unfold read8
  split
  · exact ⟨s.fault, _, s.ppu.v, s.ppu.readBuffer, s.ppu.ioLatch, s.ppu.vblank, s.ppu.w, s.ppu.vblSuppress,
      s.apu.frameIrq, s.joyShift0, s.joyShift1, rfl⟩
  · rename_i n _
    unfold ppuPortRead
    split
    · exact ⟨s.fault, _, s.ppu.v, s.ppu.readBuffer, _, _, _, _, s.apu.frameIrq, s.joyShift0, s.joyShift1, rfl⟩
    · exact ⟨s.fault, _, s.ppu.v, s.ppu.readBuffer, _, s.ppu.vblank, s.ppu.w, s.ppu.vblSuppress,
        s.apu.frameIrq, s.joyShift0, s.joyShift1, rfl⟩
    · simp only [readData]
      obtain ⟨f, hf⟩ := ppuRead_cases (s.ppu.v.setWidth 14) s
      split
      · rw [hf]
        exact ⟨f, _, _, _, _, s.ppu.vblank, s.ppu.w, s.ppu.vblSuppress,
          s.apu.frameIrq, s.joyShift0, s.joyShift1, rfl⟩
      · rw [hf]
        obtain ⟨g, hg⟩ := ppuRead_cases (s.ppu.v.setWidth 14 &&& 0x2FFF) (s.setFault f)
        rw [hg]
        exact ⟨g, _, _, _, _, s.ppu.vblank, s.ppu.w, s.ppu.vblSuppress,
          s.apu.frameIrq, s.joyShift0, s.joyShift1, rfl⟩
    · exact ⟨s.fault, _, s.ppu.v, s.ppu.readBuffer, s.ppu.ioLatch, s.ppu.vblank, s.ppu.w, s.ppu.vblSuppress,
        s.apu.frameIrq, s.joyShift0, s.joyShift1, rfl⟩
  · exact ⟨s.fault, s.db, s.ppu.v, s.ppu.readBuffer, s.ppu.ioLatch, s.ppu.vblank, s.ppu.w, s.ppu.vblSuppress,
      s.apu.frameIrq, s.joyShift0, s.joyShift1, rfl⟩
  · exact ⟨s.fault, s.db, s.ppu.v, s.ppu.readBuffer, s.ppu.ioLatch, s.ppu.vblank, s.ppu.w, s.ppu.vblSuppress,
      s.apu.frameIrq, s.joyShift0, s.joyShift1, rfl⟩
  · exact ⟨s.fault, _, s.ppu.v, s.ppu.readBuffer, s.ppu.ioLatch, s.ppu.vblank, s.ppu.w, s.ppu.vblSuppress,
      _, s.joyShift0, s.joyShift1, rfl⟩
  · unfold readController1
    split <;> exact ⟨s.fault, _, s.ppu.v, s.ppu.readBuffer, s.ppu.ioLatch, s.ppu.vblank, s.ppu.w,
      s.ppu.vblSuppress, s.apu.frameIrq, _, s.joyShift1, rfl⟩
  · unfold readController2
    split <;> exact ⟨s.fault, _, s.ppu.v, s.ppu.readBuffer, s.ppu.ioLatch, s.ppu.vblank, s.ppu.w,
      s.ppu.vblSuppress, s.apu.frameIrq, s.joyShift0, _, rfl⟩
  · exact ⟨s.fault, s.db, s.ppu.v, s.ppu.readBuffer, s.ppu.ioLatch, s.ppu.vblank, s.ppu.w, s.ppu.vblSuppress,
      s.apu.frameIrq, s.joyShift0, s.joyShift1, rfl⟩
  · unfold cartRead
    split
    · exact ⟨s.fault, s.db, s.ppu.v, s.ppu.readBuffer, s.ppu.ioLatch, s.ppu.vblank, s.ppu.w, s.ppu.vblSuppress,
        s.apu.frameIrq, s.joyShift0, s.joyShift1, rfl⟩
    · split
      · exact ⟨s.fault, _, s.ppu.v, s.ppu.readBuffer, s.ppu.ioLatch, s.ppu.vblank, s.ppu.w, s.ppu.vblSuppress,
          s.apu.frameIrq, s.joyShift0, s.joyShift1, rfl⟩
      · exact ⟨_, s.db, s.ppu.v, s.ppu.readBuffer, s.ppu.ioLatch, s.ppu.vblank, s.ppu.w, s.ppu.vblSuppress,
          s.apu.frameIrq, s.joyShift0, s.joyShift1, rfl⟩

/-! ### The fields a read leaves alone -/

section

variable (a : Addr) (s : State)

@[simp] theorem read8_a : (read8 a s).2.a = s.a := by
  obtain ⟨_, _, _, _, _, _, _, _, _, _, _, h⟩ := read8_cases a s; rw [h]
@[simp] theorem read8_x : (read8 a s).2.x = s.x := by
  obtain ⟨_, _, _, _, _, _, _, _, _, _, _, h⟩ := read8_cases a s; rw [h]
@[simp] theorem read8_y : (read8 a s).2.y = s.y := by
  obtain ⟨_, _, _, _, _, _, _, _, _, _, _, h⟩ := read8_cases a s; rw [h]
@[simp] theorem read8_sp : (read8 a s).2.sp = s.sp := by
  obtain ⟨_, _, _, _, _, _, _, _, _, _, _, h⟩ := read8_cases a s; rw [h]
@[simp] theorem read8_pc : (read8 a s).2.pc = s.pc := by
  obtain ⟨_, _, _, _, _, _, _, _, _, _, _, h⟩ := read8_cases a s; rw [h]
@[simp] theorem read8_p : (read8 a s).2.p = s.p := by
  obtain ⟨_, _, _, _, _, _, _, _, _, _, _, h⟩ := read8_cases a s; rw [h]
@[simp] theorem read8_cyc : (read8 a s).2.cyc = s.cyc := by
  obtain ⟨_, _, _, _, _, _, _, _, _, _, _, h⟩ := read8_cases a s; rw [h]
@[simp] theorem read8_ram : (read8 a s).2.ram = s.ram := by
  obtain ⟨_, _, _, _, _, _, _, _, _, _, _, h⟩ := read8_cases a s; rw [h]
@[simp] theorem read8_joyStrobe : (read8 a s).2.joyStrobe = s.joyStrobe := by
  obtain ⟨_, _, _, _, _, _, _, _, _, _, _, h⟩ := read8_cases a s; rw [h]
@[simp] theorem read8_nmiPending : (read8 a s).2.nmiPending = s.nmiPending := by
  obtain ⟨_, _, _, _, _, _, _, _, _, _, _, h⟩ := read8_cases a s; rw [h]
@[simp] theorem read8_mapper : (read8 a s).2.mapper = s.mapper := by
  obtain ⟨_, _, _, _, _, _, _, _, _, _, _, h⟩ := read8_cases a s; rw [h]
@[simp] theorem read8_buttons0 : (read8 a s).2.buttons0 = s.buttons0 := by
  obtain ⟨_, _, _, _, _, _, _, _, _, _, _, h⟩ := read8_cases a s; rw [h]
@[simp] theorem read8_buttons1 : (read8 a s).2.buttons1 = s.buttons1 := by
  obtain ⟨_, _, _, _, _, _, _, _, _, _, _, h⟩ := read8_cases a s; rw [h]
@[simp] theorem read8_frameCompleted : (read8 a s).2.frameCompleted = s.frameCompleted := by
  obtain ⟨_, _, _, _, _, _, _, _, _, _, _, h⟩ := read8_cases a s; rw [h]
@[simp] theorem read8_samples : (read8 a s).2.samples = s.samples := by
  obtain ⟨_, _, _, _, _, _, _, _, _, _, _, h⟩ := read8_cases a s; rw [h]
@[simp] theorem read8_cart : (read8 a s).2.cart = s.cart := by
  obtain ⟨_, _, _, _, _, _, _, _, _, _, _, h⟩ := read8_cases a s; rw [h]
@[simp] theorem read8_params : (read8 a s).2.params = s.params := by
  obtain ⟨_, _, _, _, _, _, _, _, _, _, _, h⟩ := read8_cases a s; rw [h]

/-- The picture unit after a read: the six fields R214 lets a read change, and nothing else. -/
theorem read8_ppu : ∃ v rb io vb w vs, (read8 a s).2.ppu =
    { s.ppu with v := v, readBuffer := rb, ioLatch := io, vblank := vb, w := w, vblSuppress := vs } := by
  obtain ⟨_, _, v, rb, io, vb, w, vs, _, _, _, h⟩ := read8_cases a s
  exact ⟨v, rb, io, vb, w, vs, by rw [h]⟩

/-- The audio unit after a read: only the frame interrupt flag can change. -/
theorem read8_apu : ∃ fi, (read8 a s).2.apu = { s.apu with frameIrq := fi } := by
  obtain ⟨_, _, _, _, _, _, _, _, fi, _, _, h⟩ := read8_cases a s
  exact ⟨fi, by rw [h]⟩

@[simp] theorem read8_fixedMapping : (read8 a s).2.fixedMapping = s.fixedMapping := by
  simp [State.fixedMapping]

/-- A memory byte is a function of work RAM, the cartridge and the Mapper's state. -/
theorem memByte_congr {s t : State} (hr : t.ram = s.ram) (hc : t.cart = s.cart) (hm : t.mapper = s.mapper) (b : Addr) :
    memByte t b = memByte s b := by
  have hp : ∀ r o, prgByte t r o = prgByte s r o := by
    intro r o; cases r <;> simp [prgByte, hc, hm]
  have hz : ∀ r, prgSize t r = prgSize s r := by
    intro r; cases r <;> simp [prgSize, hc]
  have ht : translatePrg t b = translatePrg s b := by
    simp [translatePrg, State.fixedMapping, hc, hm]
  unfold memByte
  rw [ht, hr]
  simp only [hp, hz]

/-- A read changes no byte of memory. -/
@[simp] theorem memByte_read8 (b : Addr) : memByte (read8 a s).2 b = memByte s b :=
  memByte_congr (by simp) (by simp) (by simp) b

end

/-! ## A write of the CPU bus -/

/-- What the PPU ports can change. -/
theorem ppuPortWrite_cases (n : Nat) (b : Byte) (s : State) :
    ∃ f nmi ppu cr,
      ppuPortWrite n b s = { s with fault := f, nmiPending := nmi, ppu := ppu, mapper := { s.mapper with chrRam := cr } } ∧
        ppu.scanline = s.ppu.scanline ∧ ppu.dot = s.ppu.dot ∧ ppu.ppuDots = s.ppu.ppuDots ∧
        ppu.frameParity = s.ppu.frameParity := by
  unfold ppuPortWrite
  split
  · exact ⟨s.fault, _, _, s.mapper.chrRam, rfl, rfl, rfl, rfl, rfl⟩
  · exact ⟨s.fault, s.nmiPending, _, s.mapper.chrRam, rfl, rfl, rfl, rfl, rfl⟩
  · exact ⟨s.fault, s.nmiPending, _, s.mapper.chrRam, rfl, rfl, rfl, rfl, rfl⟩
  · exact ⟨s.fault, s.nmiPending, _, s.mapper.chrRam, rfl, rfl, rfl, rfl, rfl⟩
  · refine ⟨s.fault, s.nmiPending, _, s.mapper.chrRam, rfl, ?_, ?_, ?_, ?_⟩ <;> (unfold Ppu.writeScroll; split <;> rfl)
  · refine ⟨s.fault, s.nmiPending, _, s.mapper.chrRam, rfl, ?_, ?_, ?_, ?_⟩ <;> (unfold Ppu.writeAddr; split <;> rfl)
  · simp only [ppuWrite, chrWrite]
    split
    · split
      · split
        · exact ⟨s.fault, s.nmiPending, _, _, rfl, rfl, rfl, rfl, rfl⟩
        · exact ⟨s.fault, s.nmiPending, _, s.mapper.chrRam, rfl, rfl, rfl, rfl, rfl⟩
      · exact ⟨_, s.nmiPending, _, s.mapper.chrRam, rfl, rfl, rfl, rfl, rfl⟩
    · split <;> exact ⟨s.fault, s.nmiPending, _, s.mapper.chrRam, rfl, rfl, rfl, rfl, rfl⟩
  · exact ⟨s.fault, s.nmiPending, _, s.mapper.chrRam, rfl, rfl, rfl, rfl, rfl⟩

/-- What the sprite DMA can change: what its reads and its port writes can. -/
theorem dmaLoop_cases (page : Byte) (k : Nat) (s : State) :
    ∃ f db nmi ppu cr fi j0 j1,
      dmaLoop page k s =
        { s with
          fault := f
          db := db
          nmiPending := nmi
          ppu := ppu
          mapper := { s.mapper with chrRam := cr }
          apu := { s.apu with frameIrq := fi }
          joyShift0 := j0
          joyShift1 := j1 } ∧
        ppu.scanline = s.ppu.scanline ∧ ppu.dot = s.ppu.dot ∧ ppu.ppuDots = s.ppu.ppuDots ∧
        ppu.frameParity = s.ppu.frameParity := by
  induction k generalizing s with
  | zero =>
    exact ⟨s.fault, s.db, s.nmiPending, s.ppu, s.mapper.chrRam, s.apu.frameIrq, s.joyShift0, s.joyShift1, rfl, rfl, rfl, rfl,
      rfl⟩
  | succ k ih =>
    simp only [dmaLoop]
    obtain ⟨_, _, _, _, _, _, _, _, _, _, _, h1⟩ := read8_cases (word page (BitVec.ofNat 8 (255 - k))) s
    rw [h1]
    obtain ⟨_, _, _, _, h2, e1, e2, e3, e4⟩ := ppuPortWrite_cases 4 (read8 (word page (BitVec.ofNat 8 (255 - k))) s).1 _
    rw [h2]
    obtain ⟨_, _, _, _, _, _, _, _, h3, e5, e6, e7, e8⟩ := ih _
    refine ⟨_, _, _, _, _, _, _, _, h3, e5.trans e1, e6.trans e2, e7.trans e3, e8.trans e4⟩

/-- A sequencer step, a register write or an enable write leaves the unit's clock alone. -/
theorem writeRegister_apuCyc (u : Apu) (n : Nat) (b : Byte) : (u.writeRegister n b).apuCyc = u.apuCyc := by
  unfold Apu.writeRegister
  split <;> rfl

theorem writeSequencer_apuCyc (u : Apu) (b : Byte) : (u.writeSequencer b).apuCyc = u.apuCyc := by
  unfold Apu.writeSequencer
  simp only []
  split <;> rfl

/-- What a CPU write can change: RAM, `db`, the controllers, the two units, the Mapper, the NMI latch, the fault latch;
no register of the CPU, no clock, no position. -/
theorem write8_cases (a : Addr) (v : Byte) (s : State) :
    ∃ f ram db js j0 j1 nmi ppu apu mapper,
      write8 a v s =
        { s with
          fault := f
          ram := ram
          db := db
          joyStrobe := js
          joyShift0 := j0
          joyShift1 := j1
          nmiPending := nmi
          ppu := ppu
          apu := apu
          mapper := mapper } ∧
        ppu.scanline = s.ppu.scanline ∧ ppu.dot = s.ppu.dot ∧ ppu.ppuDots = s.ppu.ppuDots ∧
        ppu.frameParity = s.ppu.frameParity ∧ apu.apuCyc = s.apu.apuCyc := by
  unfold write8
  split
  · exact ⟨s.fault, _, _, s.joyStrobe, s.joyShift0, s.joyShift1, s.nmiPending, s.ppu, s.apu, s.mapper, rfl, rfl, rfl,
      rfl, rfl, rfl⟩
  · rename_i n _
    obtain ⟨_, _, _, _, h, e1, e2, e3, e4⟩ := ppuPortWrite_cases n v s
    rw [h]
    exact ⟨_, s.ram, _, s.joyStrobe, s.joyShift0, s.joyShift1, _, _, s.apu, _, rfl, e1, e2, e3, e4, rfl⟩
  · exact ⟨s.fault, s.ram, _, s.joyStrobe, s.joyShift0, s.joyShift1, s.nmiPending, s.ppu, _, s.mapper, rfl, rfl, rfl,
      rfl, rfl, writeRegister_apuCyc _ _ _⟩
  · unfold spriteDma
    obtain ⟨_, _, _, _, _, _, _, _, h, e1, e2, e3, e4⟩ := dmaLoop_cases v 256 (s.setDb v)
    rw [h]
    exact ⟨_, s.ram, _, s.joyStrobe, _, _, _, _, _, _, rfl, e1, e2, e3, e4, rfl⟩
  · exact ⟨s.fault, s.ram, _, s.joyStrobe, s.joyShift0, s.joyShift1, s.nmiPending, s.ppu, _, s.mapper, rfl, rfl, rfl,
      rfl, rfl, rfl⟩
  · simp only [writeStrobe]
    split <;> exact ⟨s.fault, s.ram, _, _, _, _, s.nmiPending, s.ppu, s.apu, s.mapper, rfl, rfl, rfl, rfl, rfl, rfl⟩
  · exact ⟨s.fault, s.ram, _, s.joyStrobe, s.joyShift0, s.joyShift1, s.nmiPending, s.ppu, _, s.mapper, rfl, rfl, rfl,
      rfl, rfl, writeSequencer_apuCyc _ _⟩
  · exact ⟨s.fault, s.ram, _, s.joyStrobe, s.joyShift0, s.joyShift1, s.nmiPending, s.ppu, s.apu, s.mapper, rfl, rfl,
      rfl, rfl, rfl, rfl⟩
  · simp only [cartWrite]
    split
    · exact ⟨s.fault, s.ram, _, s.joyStrobe, s.joyShift0, s.joyShift1, s.nmiPending, s.ppu, s.apu, _, rfl, rfl, rfl,
        rfl, rfl, rfl⟩
    · split
      · split <;> exact ⟨s.fault, s.ram, _, s.joyStrobe, s.joyShift0, s.joyShift1, s.nmiPending, s.ppu, s.apu, _, rfl,
          rfl, rfl, rfl, rfl, rfl⟩
      · exact ⟨_, s.ram, _, s.joyStrobe, s.joyShift0, s.joyShift1, s.nmiPending, s.ppu, s.apu, _, rfl, rfl, rfl,
          rfl, rfl, rfl⟩

/-! ### The fields a write leaves alone -/

section

variable (a : Addr) (v : Byte) (s : State)

@[simp] theorem write8_a : (write8 a v s).a = s.a := by
  obtain ⟨_, _, _, _, _, _, _, _, _, _, h, _⟩ := write8_cases a v s; rw [h]
@[simp] theorem write8_x : (write8 a v s).x = s.x := by
  obtain ⟨_, _, _, _, _, _, _, _, _, _, h, _⟩ := write8_cases a v s; rw [h]
@[simp] theorem write8_y : (write8 a v s).y = s.y := by
  obtain ⟨_, _, _, _, _, _, _, _, _, _, h, _⟩ := write8_cases a v s; rw [h]
@[simp] theorem write8_sp : (write8 a v s).sp = s.sp := by
  obtain ⟨_, _, _, _, _, _, _, _, _, _, h, _⟩ := write8_cases a v s; rw [h]
@[simp] theorem write8_pc : (write8 a v s).pc = s.pc := by
  obtain ⟨_, _, _, _, _, _, _, _, _, _, h, _⟩ := write8_cases a v s; rw [h]
@[simp] theorem write8_p : (write8 a v s).p = s.p := by
  obtain ⟨_, _, _, _, _, _, _, _, _, _, h, _⟩ := write8_cases a v s; rw [h]
@[simp] theorem write8_cyc : (write8 a v s).cyc = s.cyc := by
  obtain ⟨_, _, _, _, _, _, _, _, _, _, h, _⟩ := write8_cases a v s; rw [h]
@[simp] theorem write8_buttons0 : (write8 a v s).buttons0 = s.buttons0 := by
  obtain ⟨_, _, _, _, _, _, _, _, _, _, h, _⟩ := write8_cases a v s; rw [h]
@[simp] theorem write8_buttons1 : (write8 a v s).buttons1 = s.buttons1 := by
  obtain ⟨_, _, _, _, _, _, _, _, _, _, h, _⟩ := write8_cases a v s; rw [h]
@[simp] theorem write8_frameCompleted : (write8 a v s).frameCompleted = s.frameCompleted := by
  obtain ⟨_, _, _, _, _, _, _, _, _, _, h, _⟩ := write8_cases a v s; rw [h]
@[simp] theorem write8_samples : (write8 a v s).samples = s.samples := by
  obtain ⟨_, _, _, _, _, _, _, _, _, _, h, _⟩ := write8_cases a v s; rw [h]
@[simp] theorem write8_cart : (write8 a v s).cart = s.cart := by
  obtain ⟨_, _, _, _, _, _, _, _, _, _, h, _⟩ := write8_cases a v s; rw [h]
@[simp] theorem write8_params : (write8 a v s).params = s.params := by
  obtain ⟨_, _, _, _, _, _, _, _, _, _, h, _⟩ := write8_cases a v s; rw [h]

@[simp] theorem write8_ppuDots : (write8 a v s).ppu.ppuDots = s.ppu.ppuDots := by
  obtain ⟨_, _, _, _, _, _, _, _, _, _, h, _, _, e, _, _⟩ := write8_cases a v s; rw [h]; exact e

@[simp] theorem write8_apuCyc : (write8 a v s).apu.apuCyc = s.apu.apuCyc := by
  obtain ⟨_, _, _, _, _, _, _, _, _, _, h, _, _, _, _, e⟩ := write8_cases a v s; rw [h]; exact e

end

/-! ### Memory after a write -/

/-- The nine devices hold no common cell: a write reaches work RAM only where the decoder says so. -/
theorem write8_ram_ne {a : Addr} (v : Byte) (s : State) (h : ∀ i, route a ≠ .ram i) : (write8 a v s).ram = s.ram := by
  unfold write8
  split
  · rename_i i hi; exact absurd hi (h i)
  · rename_i n _
    obtain ⟨_, _, _, _, e, _⟩ := ppuPortWrite_cases n v s
    rw [e]; rfl
  · rfl
  · unfold spriteDma
    obtain ⟨_, _, _, _, _, _, _, _, e, _⟩ := dmaLoop_cases v 256 (s.setDb v)
    rw [e]; rfl
  · rfl
  · simp only [writeStrobe]; split <;> rfl
  · rfl
  · rfl
  · simp only [cartWrite]
    split
    · rfl
    · split
      · split <;> rfl
      · rfl

/-- A write below 0x2000 is a write of the RAM cell the decoder gives, and `db` takes the byte. -/
theorem write8_of_ram {a : Addr} {i : Nat} (v : Byte) (s : State) (h : route a = .ram i) :
    write8 a v s = (s.setRam (s.ram.write .ram i v)).setDb v := by
  simp [write8, h]

/-- A read below 0x2000 is a read of the RAM cell the decoder gives. -/
theorem read8_of_ram {a : Addr} {i : Nat} (s : State) (h : route a = .ram i) :
    read8 a s = (s.ram.read .ram i, s.setDb (s.ram.read .ram i)) := by
  simp [read8, h, driven]

/-- The first rows of the decoder: work RAM. -/
theorem route_ram {a : Addr} (h : a.toNat < 0x2000) : route a = .ram (a.toNat % 2048) := by
  simp [route, h]

/-- With the fixed mapping a write of the cartridge window changes `db` only (R208, R247). -/
theorem write8_cartridge_fixed {a : Addr} (v : Byte) (s : State) (h : route a = .cartridge)
    (hf : s.cart.fixed = true) : write8 a v s = s.setDb v := by
  have hm : s.fixedMapping = true := by
    simp only [Cartridge.fixed, Bool.and_eq_true] at hf
    exact hf.1.1.1
  have hb : s.cart.prgBanks = 1 ∨ s.cart.prgBanks = 2 := by
    simp only [Cartridge.fixed, Bool.and_eq_true, Bool.or_eq_true, beq_iff_eq] at hf
    exact hf.1.1.2
  simp only [write8, h, cartWrite, onCpuWrite, translatePrg, hm, if_true]
  split
  · rfl
  · rename_i r o he
    split at he
    · simp only [Option.some.injEq, Prod.mk.injEq] at he
      obtain ⟨rfl, rfl⟩ := he
      have : (a.toNat - 32768) % (16384 * s.cart.prgBanks) < 16384 * s.cart.prgBanks :=
        Nat.mod_lt _ (by omega)
      simp [prgSize, this]
      rfl
    · simp at he

/-- A write outside the cartridge window moves no bank and stores nothing in cartridge program memory. -/
theorem write8_mapper {a : Addr} (v : Byte) (s : State) (h : route a ≠ .cartridge) :
    ∃ cr, (write8 a v s).mapper = { s.mapper with chrRam := cr } := by
  unfold write8
  split
  · exact ⟨s.mapper.chrRam, rfl⟩
  · rename_i n _
    obtain ⟨_, _, _, cr, e, _⟩ := ppuPortWrite_cases n v s
    exact ⟨cr, by rw [e]; rfl⟩
  · exact ⟨s.mapper.chrRam, rfl⟩
  · unfold spriteDma
    obtain ⟨_, _, _, _, cr, _, _, _, e, _⟩ := dmaLoop_cases v 256 (s.setDb v)
    exact ⟨cr, by rw [e]; rfl⟩
  · exact ⟨s.mapper.chrRam, rfl⟩
  · simp only [writeStrobe]; split <;> exact ⟨s.mapper.chrRam, rfl⟩
  · exact ⟨s.mapper.chrRam, rfl⟩
  · exact ⟨s.mapper.chrRam, rfl⟩
  · rename_i hc; exact absurd hc h

/-- No read touches the request a Mapper holds (R241, R244). -/
@[simp] theorem mapperIrq_read8 (a : Addr) (s : State) : mapperIrq (read8 a s).2 = mapperIrq s := by simp [mapperIrq]

/-- Only a write of the cartridge window reaches the request a Mapper holds (R242, R244). -/
theorem mapperIrq_write8 {a : Addr} (v : Byte) (s : State) (h : route a ≠ .cartridge) :
    mapperIrq (write8 a v s) = mapperIrq s := by
  obtain ⟨cr, hm⟩ := write8_mapper v s h
  simp [mapperIrq, State.fixedMapping, hm]

/-- A write leaves every byte of memory alone but the cell it reaches: for the fixed mapping always, for another Mapper
when it is not a write of the cartridge window. -/
theorem memByte_write8 {a b : Addr} (v : Byte) (s : State) (h : s.cart.fixed = true ∨ route a ≠ .cartridge)
    (hb : ∀ i, route a = .ram i → route b ≠ .ram i) : memByte (write8 a v s) b = memByte s b := by
  by_cases hc : route a = .cartridge
  · rcases h with h | h
    · rw [write8_cartridge_fixed v s hc h]
      exact memByte_congr rfl rfl rfl b
    · exact absurd hc h
  · obtain ⟨cr, hm⟩ := write8_mapper v s hc
    have hp : ∀ r o, prgByte (write8 a v s) r o = prgByte s r o := by
      intro r o; cases r <;> simp [prgByte, hm]
    have hz : ∀ r, prgSize (write8 a v s) r = prgSize s r := by
      intro r; cases r <;> simp [prgSize]
    have ht : translatePrg (write8 a v s) b = translatePrg s b := by
      simp [translatePrg, State.fixedMapping, hm]
    have hr : ∀ i, route b = .ram i → (write8 a v s).ram.read .ram i = s.ram.read .ram i := by
      intro i hi
      by_cases ha : ∃ j, route a = .ram j
      · obtain ⟨j, hj⟩ := ha
        rw [write8_of_ram v s hj]
        have : i ≠ j := by
          intro e; subst e; exact hb i hj hi
        simp [Cells.read_write_ne v this]
      · rw [write8_ram_ne v s fun i hi => ha ⟨i, hi⟩]
    unfold memByte
    rw [ht]
    split
    · rename_i i hi; rw [hr i hi]
    · simp only [hp, hz]
    · rfl

/-- The cell a write of work RAM reaches then holds the byte, at every address that names it. -/
theorem memByte_write8_same {a b : Addr} {i : Nat} (v : Byte) (s : State) (hr : s.ram.rising = true)
    (ha : route a = .ram i) (hb : route b = .ram i) : memByte (write8 a v s) b = some v := by
  rw [write8_of_ram v s ha]
  simp [memByte, hb, Cells.read_write_same v hr]

/-! ## The decoder, row by row (R201) -/

theorem route_ram_iff {a : Addr} {i : Nat} : route a = .ram i ↔ a.toNat < 0x2000 ∧ a.toNat % 2048 = i := by
  unfold route
  simp only []
  repeat' split
  all_goals (simp; try omega)

theorem route_ne_ram {a : Addr} (h : 0x2000 ≤ a.toNat) (i : Nat) : route a ≠ .ram i := by
  intro e
  have := (route_ram_iff.1 e).1
  omega

theorem route_ppuPort {a : Addr} (h1 : 0x2000 ≤ a.toNat) (h2 : a.toNat < 0x4000) : route a = .ppuPort (a.toNat % 8) := by
  have h : ¬a.toNat < 0x2000 := by omega
  simp [route, h, h2]

theorem route_cartridge_iff {a : Addr} : route a = .cartridge ↔ 0x4020 ≤ a.toNat := by
  unfold route
  simp only []
  repeat' split
  all_goals (simp; try omega)

theorem route_dma_iff {a : Addr} : route a = .dma ↔ a = 0x4014 := by
  rw [← BitVec.toNat_inj]
  unfold route
  simp only []
  repeat' split
  all_goals (simp; try omega)

/-- A read where memory answers gives memory's byte, and only `db` changes (R212). -/
theorem read8_of_memByte {a : Addr} {b : Byte} {s : State} (h : memByte s a = some b) : read8 a s = (b, s.setDb b) := by
  unfold memByte at h
  unfold read8
  split at h
  · rename_i i hi
    rw [hi]
    simp only [Option.some.injEq] at h
    rw [← h]
    rfl
  · rename_i hc
    rw [hc]
    simp only [cartRead]
    split at h
    · rename_i r o ht
      rw [ht]
      split at h
      · simp only [Option.some.injEq] at h
        rename_i ho
        rw [← h]
        simp only [ho, if_true]
      · simp at h
    · simp at h
  · simp at h

/-! ## A latched fault stays (R116) -/

theorem raise_keeps_fault (r : Fault) {s : State} {q : Fault} (h : s.fault = some q) : (raise r s).fault = some q := by
  simp [raise, h]

theorem ppuRead_keeps_fault (a : PpuAddr) {s : State} {q : Fault} (h : s.fault = some q) :
    (ppuRead a s).2.fault = some q := by
  rcases ppuRead_state a s with e | ⟨r, e⟩
  · rw [e, h]
  · rw [e, raise_keeps_fault r h]

theorem read8_keeps_fault (a : Addr) {s : State} {q : Fault} (h : s.fault = some q) : (read8 a s).2.fault = some q := by
  unfold read8
  split
  · exact h
  · unfold ppuPortRead
    split
    · exact h
    · exact h
    · simp only [readData]
      have h1 := ppuRead_keeps_fault (s.ppu.v.setWidth 14) h
      split
      · exact h1
      · exact ppuRead_keeps_fault _ h1
    · exact h
  · exact h
  · exact h
  · exact h
  · unfold readController1; split <;> exact h
  · unfold readController2; split <;> exact h
  · exact h
  · unfold cartRead
    split
    · exact h
    · split
      · exact h
      · exact raise_keeps_fault _ h

/-! ## With the fixed mapping no access raises a fault (R246, R247) -/

theorem fixedMapping_of_fixed {s : State} (h : s.cart.fixed = true) : s.fixedMapping = true := by
  simp only [Cartridge.fixed, Bool.and_eq_true] at h
  exact h.1.1.1

theorem chrSize_ge (s : State) : 8192 ≤ chrSize s := by
  by_cases hn : s.cart.chrBanks = 0
  · simp [chrSize, State.hasChrRam, hn]
  · simp only [chrSize, State.hasChrRam, beq_iff_eq, hn, if_false]
    omega

theorem ppuRead_fixed {s : State} (a : PpuAddr) (h : s.cart.fixed = true) : (ppuRead a s).2 = s := by
  unfold ppuRead
  split
  · rename_i ha
    have hs := chrSize_ge s
    have : translateChr s a < chrSize s := by
      simp only [translateChr, fixedMapping_of_fixed h, if_true]
      omega
    simp [chrRead, this]
  · split <;> rfl

theorem cartRead_fixed_fault {s : State} (a : Addr) (h : s.cart.fixed = true) : (cartRead a s).2.fault = s.fault := by
  have hb : s.cart.prgBanks = 1 ∨ s.cart.prgBanks = 2 := by
    simp only [Cartridge.fixed, Bool.and_eq_true, Bool.or_eq_true, beq_iff_eq] at h
    exact h.1.1.2
  simp only [cartRead, translatePrg, fixedMapping_of_fixed h, if_true]
  split
  · rfl
  · rename_i r o he
    split at he
    · simp only [Option.some.injEq, Prod.mk.injEq] at he
      obtain ⟨rfl, rfl⟩ := he
      have : (a.toNat - 32768) % (16384 * s.cart.prgBanks) < 16384 * s.cart.prgBanks := Nat.mod_lt _ (by omega)
      simp [prgSize, this]
    · simp at he

theorem read8_fixed_fault {s : State} (a : Addr) (h : s.cart.fixed = true) : (read8 a s).2.fault = s.fault := by
  unfold read8
  split
  · rfl
  · unfold ppuPortRead
    split
    · rfl
    · rfl
    · simp only [readData]
      have h1 := ppuRead_fixed (s := s) (s.ppu.v.setWidth 14) h
      split
      · rw [h1]; rfl
      · rw [h1]
        have h2 := ppuRead_fixed (s := s) (s.ppu.v.setWidth 14 &&& 0x2FFF) h
        rw [h2]; rfl
    · rfl
  · rfl
  · rfl
  · rfl
  · unfold readController1; split <;> rfl
  · unfold readController2; split <;> rfl
  · rfl
  · exact cartRead_fixed_fault a h

theorem ppuWrite_fixed_fault {s : State} (a : PpuAddr) (v : Byte) (h : s.cart.fixed = true) :
    (ppuWrite a v s).fault = s.fault := by
  unfold ppuWrite
  split
  · have hs := chrSize_ge s
    have : translateChr s a < chrSize s := by
      simp only [translateChr, fixedMapping_of_fixed h, if_true]
      omega
    simp only [chrWrite, this, if_true]
    split <;> rfl
  · split <;> rfl

end Sys2Proof.Machine
end

