-- ==== Sys2Proof/Laws/Apu.lean ====
section
/-! SUPPORT. The audio unit keeps its ranges under every register access and every cycle, and what a cycle can change. -/

namespace Sys2Proof.Machine

/-! ## Parts -/

theorem lengthClock_zero (halt : Bool) : Machine.lengthClock halt 0 = 0 := by cases halt <;> rfl

/-- The noise register never becomes 0 (R731). -/
theorem lfsrClock_ne_zero (mode : Bool) (r : BitVec 15) (h : r ≠ 0) : lfsrClock mode r ≠ 0 := by
  have key : ∀ fb : Bool, (r >>> 1) ||| (if fb then (0x4000 : BitVec 15) else 0) = 0 → r >>> 1 = 0 ∧ fb = false := by
    intro fb he
    cases fb with
    | false => exact ⟨by simpa using he, rfl⟩
    | true =>
      have := congrArg (fun v => BitVec.getLsbD v 14) he
      simp at this
  intro he
  obtain ⟨h1, hf⟩ := key _ he
  have h2 : r.toNat / 2 = 0 := by
    have := congrArg BitVec.toNat h1
    simpa [BitVec.toNat_ushiftRight, Nat.shiftRight_eq_div_pow] using this
  have h3 : r.toNat ≠ 0 := fun e => h (by apply BitVec.eq_of_toNat_eq; simpa using e)
  have h4 : r = 1 := by apply BitVec.eq_of_toNat_eq; show r.toNat = 1; omega
  subst h4
  cases mode <;> exact absurd hf (by decide)

theorem Dmc.restart_curAddr (d : Dmc) : 0x8000 ≤ d.restart.curAddr.toNat := by
  have h := d.sampleAddr.isLt
  show 0x8000 ≤ (BitVec.ofNat 16 (0xC000 + 64 * d.sampleAddr.toNat)).toNat
  rw [BitVec.toNat_ofNat, Nat.mod_eq_of_lt (by omega)]
  omega

theorem Dmc.outputClock_bitsLeft (d : Dmc) (h : 1 ≤ d.bitsLeft.toNat ∧ d.bitsLeft.toNat ≤ 8) :
    1 ≤ d.outputClock.bitsLeft.toNat ∧ d.outputClock.bitsLeft.toNat ≤ 8 := by
  unfold Dmc.outputClock
  simp only []
  split
  · split <;> exact ⟨Nat.le_of_ble_eq_true rfl, Nat.le_of_ble_eq_true rfl⟩
  · rename_i hn
    have h1 : d.bitsLeft.toNat ≠ 1 := by
      intro e
      apply hn
      have : d.bitsLeft = 1 := by apply BitVec.eq_of_toNat_eq; simpa using e
      rw [this]; rfl
    have : (d.bitsLeft - 1).toNat = d.bitsLeft.toNat - 1 := by
      have := d.bitsLeft.isLt
      rw [BitVec.toNat_sub_of_le (by rw [BitVec.le_def]; show 1 ≤ _; omega)]
      rfl
    show 1 ≤ (d.bitsLeft - 1).toNat ∧ (d.bitsLeft - 1).toNat ≤ 8
    omega

theorem Dmc.timerClock_keeps (d : Dmc) : d.timerClock.bytesLeft = d.bytesLeft ∧ d.timerClock.curAddr = d.curAddr := by
  unfold Dmc.timerClock
  split
  · unfold Dmc.outputClock
    simp only []
    split
    · split <;> exact ⟨rfl, rfl⟩
    · exact ⟨rfl, rfl⟩
  · exact ⟨rfl, rfl⟩

theorem Dmc.timerClock_bitsLeft (d : Dmc) (h : 1 ≤ d.bitsLeft.toNat ∧ d.bitsLeft.toNat ≤ 8) :
    1 ≤ d.timerClock.bitsLeft.toNat ∧ d.timerClock.bitsLeft.toNat ≤ 8 := by
  unfold Dmc.timerClock
  split
  · exact d.outputClock_bitsLeft h
  · exact h

/-- The reader's address stays in 0x8000 to 0xFFFF (R748). -/
theorem Dmc.take_curAddr (d : Dmc) (b : Byte) (h : 0x8000 ≤ d.curAddr.toNat) :
    0x8000 ≤ (d.take b).curAddr.toNat := by
  unfold Dmc.take
  simp only []
  split
  · exact Dmc.restart_curAddr _
  · show 0x8000 ≤ (if d.curAddr = 0xFFFF then (0x8000 : Addr) else d.curAddr + 1).toNat
    split
    · decide
    · rename_i hn
      have h1 : d.curAddr.toNat ≠ 65535 := fun e => hn (by apply BitVec.eq_of_toNat_eq; simpa using e)
      have := d.curAddr.isLt
      rw [BitVec.toNat_add]
      show 0x8000 ≤ (d.curAddr.toNat + 1) % 65536
      omega

theorem Dmc.take_bitsLeft (d : Dmc) (b : Byte) : (d.take b).bitsLeft = d.bitsLeft := by
  unfold Dmc.take
  simp only []
  split <;> rfl

/-! ## The ranges are kept -/

theorem Pulse.enable_ok (p : Pulse) (on : Bool) : (p.enable on).enabled = false → (p.enable on).length = 0 := by
  cases on <;> simp [Pulse.enable]

theorem Triangle.enable_ok (t : Triangle) (on : Bool) : (t.enable on).enabled = false → (t.enable on).length = 0 := by
  cases on <;> simp [Triangle.enable]

theorem Noise.enable_ok (n : Noise) (on : Bool) : (n.enable on).enabled = false → (n.enable on).length = 0 := by
  cases on <;> simp [Noise.enable]

theorem Apu.Ok.writeRegister {u : Apu} (h : u.Ok) (n : Nat) (b : Byte) : (u.writeRegister n b).Ok := by
  unfold Apu.writeRegister
  split
  any_goals first | exact { h with } | skip
  · refine { h with pulse1 := fun e => ?_ }
    have e' : u.pulse1.enabled = false := e
    show (if u.pulse1.enabled then _ else _) = _
    rw [e']
    exact h.pulse1 e'
  · refine { h with pulse2 := fun e => ?_ }
    have e' : u.pulse2.enabled = false := e
    show (if u.pulse2.enabled then _ else _) = _
    rw [e']
    exact h.pulse2 e'
  · refine { h with triangle := fun e => ?_ }
    have e' : u.triangle.enabled = false := e
    show (if u.triangle.enabled then _ else _) = _
    rw [e']
    exact h.triangle e'
  · refine { h with noise := fun e => ?_ }
    have e' : u.noise.enabled = false := e
    show (if u.noise.enabled then _ else _) = _
    rw [e']
    exact h.noise e'

theorem Apu.Ok.writeEnable {u : Apu} (h : u.Ok) (b : Byte) : (u.writeEnable b).Ok where
  pulse1 := Pulse.enable_ok _ _
  pulse2 := Pulse.enable_ok _ _
  triangle := Triangle.enable_ok _ _
  noise := Noise.enable_ok _ _
  lfsr := h.lfsr
  bitsLeft := by
    show 1 ≤ (u.dmc.enable _).bitsLeft.toNat ∧ (u.dmc.enable _).bitsLeft.toNat ≤ 8
    unfold Dmc.enable
    split
    · split <;> exact h.bitsLeft
    · exact h.bitsLeft
  reader := by
    show (u.dmc.enable _).bytesLeft ≠ 0 → 0x8000 ≤ (u.dmc.enable _).curAddr.toNat
    unfold Dmc.enable
    split
    · split
      · exact fun _ => Dmc.restart_curAddr _
      · exact h.reader
    · exact fun e => absurd rfl e
  sequencer := h.sequencer

theorem Apu.Ok.quarter {u : Apu} (h : u.Ok) : u.quarter.Ok := { h with }

theorem Apu.Ok.half {u : Apu} (h : u.Ok) : u.half.Ok := by
  have hp : ∀ (f : Bool) (p : Pulse), (p.enabled = false → p.length = 0) →
      ((p.lengthClock.sweepClock f).enabled = false → (p.lengthClock.sweepClock f).length = 0) := by
    intro f p hp
    have e1 : (p.lengthClock.sweepClock f).enabled = p.enabled := by
      unfold Pulse.sweepClock
      simp only []
      split <;> split <;> rfl
    have e2 : (p.lengthClock.sweepClock f).length = p.lengthClock.length := by
      unfold Pulse.sweepClock
      simp only []
      split <;> split <;> rfl
    rw [e1, e2]
    intro he
    show Machine.lengthClock p.env.halt p.length = 0
    rw [hp he]
    exact lengthClock_zero _
  refine { h with pulse1 := hp true _ h.pulse1, pulse2 := hp false _ h.pulse2, triangle := ?_, noise := ?_ }
  · intro e
    show Machine.lengthClock _ u.triangle.length = 0
    rw [h.triangle e]
    exact lengthClock_zero _
  · intro e
    show Machine.lengthClock _ u.noise.length = 0
    rw [h.noise e]
    exact lengthClock_zero _

theorem Apu.Ok.writeSequencer {u : Apu} (h : u.Ok) (b : Byte) : (u.writeSequencer b).Ok := by
  have h0 : ∀ m i f, ({ u with fsMode := m, fsIrqInhibit := i, frameIrq := f, fsCycle := 0 } : Apu).Ok := by
    intro m i f
    refine { h with sequencer := ?_ }
    cases m <;> exact Nat.lt_of_lt_of_le Nat.zero_lt_one (Nat.le_of_ble_eq_true rfl)
  unfold Apu.writeSequencer
  simp only []
  split
  · exact (h0 _ _ _).quarter.half
  · exact h0 _ _ _

theorem Apu.half_seq (u : Apu) : u.half.fsCycle = u.fsCycle ∧ u.half.fsMode = u.fsMode := ⟨rfl, rfl⟩

theorem Apu.Ok.sequencerStep {u : Apu} (h : u.Ok) : u.sequencerStep.Ok := by
  have hs := h.sequencer
  have up : ∀ {n : Nat}, (n < if u.fsMode then 37282 else 29830) → ({ u with fsCycle := n } : Apu).Ok :=
    fun hn => { h with sequencer := hn }
  unfold Apu.sequencerStep
  simp only []
  split
  · rename_i e
    have := up (n := u.fsCycle + 1) (by split at hs <;> split <;> omega)
    exact this.quarter
  · split
    · rename_i e
      exact (up (n := u.fsCycle + 1) (by split <;> omega)).quarter.half
    · split
      · rename_i e
        exact (up (n := u.fsCycle + 1) (by split <;> omega)).quarter
      · split
        · rename_i hm
          rw [if_pos hm] at hs
          split
          · exact (up (n := u.fsCycle + 1) (by rw [if_pos hm]; omega)).quarter.half
          · split
            · exact up (n := 0) (by rw [if_pos hm]; omega)
            · exact up (n := u.fsCycle + 1) (by rw [if_pos hm]; omega)
        · rename_i hm
          rw [if_neg hm] at hs
          split
          · have := (up (n := u.fsCycle + 1) (by rw [if_neg hm]; omega)).quarter.half
            exact { this with }
          · split
            · exact up (n := 0) (by rw [if_neg hm]; omega)
            · exact up (n := u.fsCycle + 1) (by rw [if_neg hm]; omega)

theorem Apu.Ok.clockTimers {u : Apu} (h : u.Ok) : u.clockTimers.Ok := by
  have h1 := h.sequencerStep
  have h2 : ({ u.sequencerStep with
      triangle := u.sequencerStep.triangle.timerClock
      noise := u.sequencerStep.noise.timerClock
      dmc := u.sequencerStep.dmc.timerClock } : Apu).Ok := by
    refine { h1 with triangle := ?_, noise := ?_, lfsr := ?_, bitsLeft := ?_, reader := ?_ }
    · show (Triangle.timerClock _).enabled = false → (Triangle.timerClock _).length = 0
      unfold Triangle.timerClock
      split <;> exact h1.triangle
    · show (Noise.timerClock _).enabled = false → (Noise.timerClock _).length = 0
      unfold Noise.timerClock
      split <;> exact h1.noise
    · show (Noise.timerClock _).lfsr ≠ 0
      unfold Noise.timerClock
      split
      · exact lfsrClock_ne_zero _ _ h1.lfsr
      · exact h1.lfsr
    · exact Dmc.timerClock_bitsLeft _ h1.bitsLeft
    · show (Dmc.timerClock _).bytesLeft ≠ 0 → 0x8000 ≤ (Dmc.timerClock _).curAddr.toNat
      rw [(Dmc.timerClock_keeps _).1, (Dmc.timerClock_keeps _).2]
      exact h1.reader
  have hp : ∀ p : Pulse, (p.enabled = false → p.length = 0) → (p.timerClock.enabled = false → p.timerClock.length = 0) := by
    intro p hp
    unfold Pulse.timerClock
    split <;> exact hp
  unfold Apu.clockTimers
  simp only []
  split
  · exact { h2 with pulse1 := hp _ h2.pulse1, pulse2 := hp _ h2.pulse2 }
  · exact h2

theorem sequencerStep_apuCyc (u : Apu) : u.sequencerStep.apuCyc = u.apuCyc := by
  unfold Apu.sequencerStep
  simp only []
  repeat' split
  all_goals rfl

theorem clockTimers_apuCyc (u : Apu) : u.clockTimers.apuCyc = u.apuCyc := by
  unfold Apu.clockTimers
  simp only []
  split <;> exact sequencerStep_apuCyc u

/-! ## A cycle on the whole state -/

/-- What an APU cycle can change: the audio unit, the sample stream, and, where it fetches a sample byte, the clock and
what a bus read can. The clock never goes back, the unit counts the cycle, and its ranges are kept. -/
theorem apuCycle_cases (s : State) :
    ∃ f db v rb io vb w vs j0 j1 cyc apu smp,
      apuCycle s =
        { s with
          fault := f
          db := db
          ppu := { s.ppu with v := v, readBuffer := rb, ioLatch := io, vblank := vb, w := w, vblSuppress := vs }
          joyShift0 := j0
          joyShift1 := j1
          cyc := cyc
          apu := apu
          samples := smp } ∧
        s.cyc ≤ cyc ∧ apu.apuCyc = s.apu.apuCyc + 1 ∧ (s.apu.Ok → apu.Ok) ∧ (s.cart.fixed = true → f = s.fault) := by
  unfold apuCycle
  simp only [dmcReader]
  split
  · rename_i hr
    have hb : s.apu.clockTimers.dmc.bytesLeft ≠ 0 := by
      simp only [Bool.and_eq_true, decide_eq_true_eq] at hr
      exact hr.2
    simp only [dmcFetch]
    obtain ⟨f, db, v, rb, io, vb, w, vs, fi, j0, j1, h⟩ :=
      read8_cases (s.setApu s.apu.clockTimers).apu.dmc.curAddr (s.setApu s.apu.clockTimers)
    rw [h]
    refine ⟨f, db, v, rb, io, vb, w, vs, j0, j1, _, _, _, rfl, Nat.le_add_right _ _,
      congrArg (· + 1) (clockTimers_apuCyc _), fun ho => ?_, fun e => ?_⟩
    rotate_left
    · have := read8_fixed_fault (s := s.setApu s.apu.clockTimers) (s.setApu s.apu.clockTimers).apu.dmc.curAddr e
      rw [h] at this
      exact this
    have h1 := ho.clockTimers
    refine { h1 with bitsLeft := ?_, reader := fun _ => Dmc.take_curAddr _ _ (h1.reader hb) }
    show 1 ≤ (Dmc.take _ _).bitsLeft.toNat ∧ (Dmc.take _ _).bitsLeft.toNat ≤ 8
    rw [Dmc.take_bitsLeft]
    exact h1.bitsLeft
  · exact ⟨s.fault, s.db, s.ppu.v, s.ppu.readBuffer, s.ppu.ioLatch, s.ppu.vblank, s.ppu.w, s.ppu.vblSuppress,
      s.joyShift0, s.joyShift1, s.cyc, _, _, rfl, Nat.le_refl _, congrArg (· + 1) (clockTimers_apuCyc _),
      fun ho => { ho.clockTimers with }, fun _ => rfl⟩

theorem apuCycles_cases (n : Nat) (s : State) :
    ∃ f db v rb io vb w vs j0 j1 cyc apu smp,
      apuCycles n s =
        { s with
          fault := f
          db := db
          ppu := { s.ppu with v := v, readBuffer := rb, ioLatch := io, vblank := vb, w := w, vblSuppress := vs }
          joyShift0 := j0
          joyShift1 := j1
          cyc := cyc
          apu := apu
          samples := smp } ∧
        s.cyc ≤ cyc ∧ apu.apuCyc = s.apu.apuCyc + n ∧ (s.apu.Ok → apu.Ok) ∧ (s.cart.fixed = true → f = s.fault) := by
  induction n generalizing s with
  | zero =>
    exact ⟨s.fault, s.db, s.ppu.v, s.ppu.readBuffer, s.ppu.ioLatch, s.ppu.vblank, s.ppu.w, s.ppu.vblSuppress,
      s.joyShift0, s.joyShift1, s.cyc, s.apu, s.samples, rfl, Nat.le_refl _, rfl, id, fun _ => rfl⟩
  | succ n ih =>
    obtain ⟨f, db, v, rb, io, vb, w, vs, j0, j1, cyc, apu, smp, h, hc, ha, ho, hf⟩ := apuCycle_cases s
    simp only [apuCycles]
    rw [h]
    obtain ⟨f', db', v', rb', io', vb', w', vs', j0', j1', cyc', apu', smp', h', hc', ha', ho', hf'⟩ := ih
      { s with
          fault := f
          db := db
          ppu := { s.ppu with v := v, readBuffer := rb, ioLatch := io, vblank := vb, w := w, vblSuppress := vs }
          joyShift0 := j0
          joyShift1 := j1
          cyc := cyc
          apu := apu
          samples := smp }
    refine ⟨f', db', v', rb', io', vb', w', vs', j0', j1', cyc', apu', smp', h', Nat.le_trans hc hc', ?_, ho' ∘ ho,
      fun e => (hf' e).trans (hf e)⟩
    rw [ha']
    show apu.apuCyc + n = _
    omega

/-- The catch-up of the audio unit (R701): it ends at the cycle the clock showed when it began. -/
theorem apuCatchUp_cases (s : State) :
    ∃ f db v rb io vb w vs j0 j1 cyc apu smp,
      apuCatchUp s =
        { s with
          fault := f
          db := db
          ppu := { s.ppu with v := v, readBuffer := rb, ioLatch := io, vblank := vb, w := w, vblSuppress := vs }
          joyShift0 := j0
          joyShift1 := j1
          cyc := cyc
          apu := apu
          samples := smp } ∧
        s.cyc ≤ cyc ∧ apu.apuCyc = max s.apu.apuCyc s.cyc ∧ (s.apu.Ok → apu.Ok) ∧ (s.cart.fixed = true → f = s.fault) := by
  obtain ⟨f, db, v, rb, io, vb, w, vs, j0, j1, cyc, apu, smp, h, hc, ha, ho, hf⟩ :=
    apuCycles_cases (s.cyc - s.apu.apuCyc) s
  exact ⟨f, db, v, rb, io, vb, w, vs, j0, j1, cyc, apu, smp, h, hc, by rw [ha]; omega, ho, hf⟩

end Sys2Proof.Machine
end

