-- ==== Sys2Proof/Laws/Commute.lean ====
section
/-! SUPPORT. No bus access reads the CPU registers, the flags or the clock, so setting them before an access or after it
is the same. -/

namespace Sys2Proof.Machine

/-- The state with all the CPU registers and the clock replaced. -/
def State.withCpu (s : State) (c : Cpu) (n : Nat) : State :=
  { s with a := c.a, x := c.x, y := c.y, sp := c.sp, pc := c.pc, p := c.p, cyc := n }

@[simp] theorem State.withCpu_ppu (s : State) (c : Cpu) (n : Nat) : (s.withCpu c n).ppu = s.ppu := rfl
@[simp] theorem State.withCpu_joyStrobe (s : State) (c : Cpu) (n : Nat) : (s.withCpu c n).joyStrobe = s.joyStrobe := rfl

@[simp] theorem read8_cpu (a : Addr) (s : State) : (read8 a s).2.cpu = s.cpu := by simp [State.cpu]
@[simp] theorem write8_cpu (a : Addr) (v : Byte) (s : State) : (write8 a v s).cpu = s.cpu := by simp [State.cpu]

section

variable (c : Cpu) (n : Nat)

theorem chrRead_withCpu (a : PpuAddr) (s : State) : chrRead a (s.withCpu c n) = ((chrRead a s).1, (chrRead a s).2.withCpu c n) := by
  have h1 : translateChr (s.withCpu c n) a = translateChr s a := rfl
  have h2 : chrSize (s.withCpu c n) = chrSize s := rfl
  unfold chrRead
  simp only [h1, h2]
  by_cases h : translateChr s a < chrSize s
  · simp only [h, if_true]; rfl
  · simp only [h, if_false]; rfl

theorem ppuRead_withCpu (a : PpuAddr) (s : State) : ppuRead a (s.withCpu c n) = ((ppuRead a s).1, (ppuRead a s).2.withCpu c n) := by
  unfold ppuRead
  split
  · exact chrRead_withCpu c n a s
  · split <;> rfl

theorem ppuPortRead_withCpu (k : Nat) (s : State) :
    ppuPortRead k (s.withCpu c n) = ((ppuPortRead k s).1, (ppuPortRead k s).2.withCpu c n) := by
  unfold ppuPortRead
  split
  · rfl
  · rfl
  · simp only [readData, State.withCpu_ppu, ppuRead_withCpu]
    split <;> rfl
  · rfl

theorem cartRead_withCpu (a : Addr) (s : State) : cartRead a (s.withCpu c n) = ((cartRead a s).1, (cartRead a s).2.withCpu c n) := by
  have h : translatePrg (s.withCpu c n) a = translatePrg s a := rfl
  unfold cartRead
  rw [h]
  split
  · rfl
  · rename_i r o _
    have h1 : prgSize (s.withCpu c n) r = prgSize s r := by cases r <;> rfl
    have h2 : prgByte (s.withCpu c n) r o = prgByte s r o := by cases r <;> rfl
    rw [h1, h2]
    split <;> rfl

theorem read8_withCpu (a : Addr) (s : State) : read8 a (s.withCpu c n) = ((read8 a s).1, (read8 a s).2.withCpu c n) := by
  unfold read8
  split
  · rfl
  · rw [ppuPortRead_withCpu]; rfl
  · rfl
  · rfl
  · rfl
  · cases h : s.joyStrobe <;> simp only [readController1, State.withCpu_joyStrobe, h, if_true] <;> rfl
  · cases h : s.joyStrobe <;> simp only [readController2, State.withCpu_joyStrobe, h, if_true] <;> rfl
  · rfl
  · exact cartRead_withCpu c n a s

theorem ppuWrite_withCpu (a : PpuAddr) (v : Byte) (s : State) : ppuWrite a v (s.withCpu c n) = (ppuWrite a v s).withCpu c n := by
  unfold ppuWrite
  split
  · unfold chrWrite
    have h1 : translateChr (s.withCpu c n) a = translateChr s a := rfl
    have h2 : chrSize (s.withCpu c n) = chrSize s := rfl
    simp only [h1, h2]
    have h3 : (s.withCpu c n).hasChrRam = s.hasChrRam := rfl
    simp only [h3]
    by_cases h : translateChr s a < chrSize s
    · simp only [h, if_true]; split <;> rfl
    · simp only [h, if_false]; rfl
  · split <;> rfl

theorem ppuPortWrite_withCpu (k : Nat) (b : Byte) (s : State) :
    ppuPortWrite k b (s.withCpu c n) = (ppuPortWrite k b s).withCpu c n := by
  unfold ppuPortWrite
  split
  any_goals rfl
  have : (s.withCpu c n).setPpu { (s.withCpu c n).ppu with ioLatch := b } = (s.setPpu { s.ppu with ioLatch := b }).withCpu c n := rfl
  simp only [this, ppuWrite_withCpu]
  rfl

theorem dmaLoop_withCpu (page : Byte) (k : Nat) (s : State) : dmaLoop page k (s.withCpu c n) = (dmaLoop page k s).withCpu c n := by
  induction k generalizing s with
  | zero => rfl
  | succ k ih => simp only [dmaLoop, read8_withCpu, ppuPortWrite_withCpu, ih]

theorem cartWrite_withCpu (a : Addr) (v : Byte) (s : State) : cartWrite a v (s.withCpu c n) = (cartWrite a v s).withCpu c n := by
  have h : translatePrg (s.withCpu c n) a = translatePrg s a := rfl
  unfold cartWrite
  rw [h]
  split
  · rfl
  · rename_i r o _
    have h1 : prgSize (s.withCpu c n) r = prgSize s r := by cases r <;> rfl
    simp only [h1]
    by_cases h2 : o < prgSize s r
    · simp only [h2, if_true]; cases r <;> rfl
    · simp only [h2, if_false]; rfl

theorem write8_withCpu (a : Addr) (v : Byte) (s : State) : write8 a v (s.withCpu c n) = (write8 a v s).withCpu c n := by
  unfold write8
  split
  · rfl
  · rw [ppuPortWrite_withCpu]; rfl
  · rfl
  · exact dmaLoop_withCpu c n v 256 (s.setDb v)
  · rfl
  · simp only [writeStrobe]; split <;> rfl
  · rfl
  · rfl
  · rw [cartWrite_withCpu]; rfl

end

/-! ## One register at a time -/

theorem setP_withCpu (p : Flags) {s t : State} (h : t.cpu = s.cpu) (hc : t.cyc = s.cyc) :
    t.setP p = t.withCpu { s.cpu with p := p } s.cyc := by rw [← h, ← hc]; rfl

theorem setPc_withCpu (a : Addr) {s t : State} (h : t.cpu = s.cpu) (hc : t.cyc = s.cyc) :
    t.setPc a = t.withCpu { s.cpu with pc := a } s.cyc := by rw [← h, ← hc]; rfl

theorem setCyc_withCpu (n : Nat) {s t : State} (h : t.cpu = s.cpu) :
    t.setCyc n = t.withCpu s.cpu n := by rw [← h]; rfl

theorem read8_setP (p : Flags) (a : Addr) (s : State) : read8 a (s.setP p) = ((read8 a s).1, (read8 a s).2.setP p) := by
  rw [setP_withCpu p (read8_cpu a s) (read8_cyc a s), setP_withCpu p (rfl : s.cpu = s.cpu) rfl, read8_withCpu]

theorem read8_setPc (pc : Addr) (a : Addr) (s : State) :
    read8 a (s.setPc pc) = ((read8 a s).1, (read8 a s).2.setPc pc) := by
  rw [setPc_withCpu pc (read8_cpu a s) (read8_cyc a s), setPc_withCpu pc (rfl : s.cpu = s.cpu) rfl, read8_withCpu]

theorem read8_setCyc (n : Nat) (a : Addr) (s : State) :
    read8 a (s.setCyc n) = ((read8 a s).1, (read8 a s).2.setCyc n) := by
  rw [setCyc_withCpu n (read8_cpu a s), setCyc_withCpu n (rfl : s.cpu = s.cpu), read8_withCpu]

theorem read16_setPc (pc : Addr) (a : Addr) (s : State) :
    read16 a (s.setPc pc) = ((read16 a s).1, (read16 a s).2.setPc pc) := by
  simp only [read16, read8_setPc]

theorem write8_setP (p : Flags) (a : Addr) (v : Byte) (s : State) :
    write8 a v (s.setP p) = (write8 a v s).setP p := by
  rw [setP_withCpu p (write8_cpu a v s) (write8_cyc a v s), setP_withCpu p (rfl : s.cpu = s.cpu) rfl, write8_withCpu]

theorem write8_setPc (pc : Addr) (a : Addr) (v : Byte) (s : State) :
    write8 a v (s.setPc pc) = (write8 a v s).setPc pc := by
  rw [setPc_withCpu pc (write8_cpu a v s) (write8_cyc a v s), setPc_withCpu pc (rfl : s.cpu = s.cpu) rfl, write8_withCpu]

end Sys2Proof.Machine
end

