-- ==== Sys2Proof/Laws/Decode.lean ====
section
/-! SUPPORT. The opcode matrix read the other way: what every one of the 256 opcode bytes leads to. -/

namespace Sys2Proof

/-- What `opcodeFormat` must give for an opcode byte: instructions whose encoding starts with it, of the length of the
format, all well-formed, and the undecodable one exactly for the bytes of R314. -/
def FormatFits (op : Byte) : Format → Prop
  | .one i => encode i = [op] ∧ i.wellFormed = true ∧ ((∃ o, i = .undecodable o) ↔ op ∈ undecodableBytes)
  | .two f =>
    ∀ b1, encode (f b1) = [op, b1] ∧ (f b1).wellFormed = true ∧ op ∉ undecodableBytes ∧ ∀ o, f b1 ≠ .undecodable o
  | .three f =>
    ∀ b1 b2, encode (f b1 b2) = [op, b1, b2] ∧ (f b1 b2).wellFormed = true ∧ op ∉ undecodableBytes ∧
      ∀ o, f b1 b2 ≠ .undecodable o

/-- One cell of the matrix whose format is a one-byte instruction. -/
theorem fits_one {op : Byte} {i : Instr} (h : encode i = [op]) (hw : i.wellFormed = true)
    (hu : undecodableBytes.contains op = false) (hi : ∀ o, i ≠ .undecodable o) : FormatFits op (.one i) := by
  refine ⟨h, hw, ?_⟩
  constructor
  · rintro ⟨o, ho⟩; exact absurd ho (hi o)
  · intro hm; simp [hm] at hu

/-- One cell of the matrix whose format is a two-byte instruction. -/
theorem fits_two {op : Byte} {f : Byte → Instr} (h : ∀ b1, encode (f b1) = [op, b1]) (hw : ∀ b1, (f b1).wellFormed = true)
    (hu : undecodableBytes.contains op = false) (hi : ∀ b1 o, f b1 ≠ .undecodable o) : FormatFits op (.two f) :=
  fun b1 => ⟨h b1, hw b1, fun hm => by simp [hm] at hu, hi b1⟩

/-- One cell of the matrix whose format is a three-byte instruction. -/
theorem fits_three {op : Byte} {f : Byte → Byte → Instr} (h : ∀ b1 b2, encode (f b1 b2) = [op, b1, b2])
    (hw : ∀ b1 b2, (f b1 b2).wellFormed = true) (hu : undecodableBytes.contains op = false)
    (hi : ∀ b1 b2 o, f b1 b2 ≠ .undecodable o) : FormatFits op (.three f) :=
  fun b1 b2 => ⟨h b1 b2, hw b1 b2, fun hm => by simp [hm] at hu, hi b1 b2⟩

/-- One cell of the matrix that is undecodable. -/
theorem fits_undecodable {op : Byte} (h : undecodableBytes.contains op = true) :
    FormatFits op (.one (.undecodable op)) :=
  ⟨rfl, h, fun _ => by simpa using h, fun _ => ⟨op, rfl⟩⟩

theorem fits_row0 : ∀ n, n < 16 → FormatFits (BitVec.ofNat 8 (0x00 + n)) (matrixRow0 n) := by
  intro n hn
  interval_cases n
  · exact fits_one rfl rfl rfl fun _ h => nomatch h
  · exact fits_two (fun _ => rfl) (fun _ => rfl) rfl fun _ _ h => nomatch h
  · exact fits_undecodable rfl
  · exact fits_two (fun _ => rfl) (fun _ => rfl) rfl fun _ _ h => nomatch h
  · exact fits_two (fun _ => rfl) (fun _ => rfl) rfl fun _ _ h => nomatch h
  · exact fits_two (fun _ => rfl) (fun _ => rfl) rfl fun _ _ h => nomatch h
  · exact fits_two (fun _ => rfl) (fun _ => rfl) rfl fun _ _ h => nomatch h
  · exact fits_two (fun _ => rfl) (fun _ => rfl) rfl fun _ _ h => nomatch h
  · exact fits_one rfl rfl rfl fun _ h => nomatch h
  · exact fits_two (fun _ => rfl) (fun _ => rfl) rfl fun _ _ h => nomatch h
  · exact fits_one rfl rfl rfl fun _ h => nomatch h
  · exact fits_undecodable rfl
  · exact fits_three (fun _ _ => rfl) (fun _ _ => rfl) rfl fun _ _ _ h => nomatch h
  · exact fits_three (fun _ _ => rfl) (fun _ _ => rfl) rfl fun _ _ _ h => nomatch h
  · exact fits_three (fun _ _ => rfl) (fun _ _ => rfl) rfl fun _ _ _ h => nomatch h
  · exact fits_three (fun _ _ => rfl) (fun _ _ => rfl) rfl fun _ _ _ h => nomatch h

theorem fits_row1 : ∀ n, n < 16 → FormatFits (BitVec.ofNat 8 (0x10 + n)) (matrixRow1 n) := by
  intro n hn
  interval_cases n
  · exact fits_two (fun _ => rfl) (fun _ => rfl) rfl fun _ _ h => nomatch h
  · exact fits_two (fun _ => rfl) (fun _ => rfl) rfl fun _ _ h => nomatch h
  · exact fits_undecodable rfl
  · exact fits_two (fun _ => rfl) (fun _ => rfl) rfl fun _ _ h => nomatch h
  · exact fits_two (fun _ => rfl) (fun _ => rfl) rfl fun _ _ h => nomatch h
  · exact fits_two (fun _ => rfl) (fun _ => rfl) rfl fun _ _ h => nomatch h
  · exact fits_two (fun _ => rfl) (fun _ => rfl) rfl fun _ _ h => nomatch h
  · exact fits_two (fun _ => rfl) (fun _ => rfl) rfl fun _ _ h => nomatch h
  · exact fits_one rfl rfl rfl fun _ h => nomatch h
  · exact fits_three (fun _ _ => rfl) (fun _ _ => rfl) rfl fun _ _ _ h => nomatch h
  · exact fits_one rfl rfl rfl fun _ h => nomatch h
  · exact fits_three (fun _ _ => rfl) (fun _ _ => rfl) rfl fun _ _ _ h => nomatch h
  · exact fits_three (fun _ _ => rfl) (fun _ _ => rfl) rfl fun _ _ _ h => nomatch h
  · exact fits_three (fun _ _ => rfl) (fun _ _ => rfl) rfl fun _ _ _ h => nomatch h
  · exact fits_three (fun _ _ => rfl) (fun _ _ => rfl) rfl fun _ _ _ h => nomatch h
  · exact fits_three (fun _ _ => rfl) (fun _ _ => rfl) rfl fun _ _ _ h => nomatch h

theorem fits_row2 : ∀ n, n < 16 → FormatFits (BitVec.ofNat 8 (0x20 + n)) (matrixRow2 n) := by
  intro n hn
  interval_cases n
  · exact fits_three (fun _ _ => rfl) (fun _ _ => rfl) rfl fun _ _ _ h => nomatch h
  · exact fits_two (fun _ => rfl) (fun _ => rfl) rfl fun _ _ h => nomatch h
  · exact fits_undecodable rfl
  · exact fits_two (fun _ => rfl) (fun _ => rfl) rfl fun _ _ h => nomatch h
  · exact fits_two (fun _ => rfl) (fun _ => rfl) rfl fun _ _ h => nomatch h
  · exact fits_two (fun _ => rfl) (fun _ => rfl) rfl fun _ _ h => nomatch h
  · exact fits_two (fun _ => rfl) (fun _ => rfl) rfl fun _ _ h => nomatch h
  · exact fits_two (fun _ => rfl) (fun _ => rfl) rfl fun _ _ h => nomatch h
  · exact fits_one rfl rfl rfl fun _ h => nomatch h
  · exact fits_two (fun _ => rfl) (fun _ => rfl) rfl fun _ _ h => nomatch h
  · exact fits_one rfl rfl rfl fun _ h => nomatch h
  · exact fits_undecodable rfl
  · exact fits_three (fun _ _ => rfl) (fun _ _ => rfl) rfl fun _ _ _ h => nomatch h
  · exact fits_three (fun _ _ => rfl) (fun _ _ => rfl) rfl fun _ _ _ h => nomatch h
  · exact fits_three (fun _ _ => rfl) (fun _ _ => rfl) rfl fun _ _ _ h => nomatch h
  · exact fits_three (fun _ _ => rfl) (fun _ _ => rfl) rfl fun _ _ _ h => nomatch h

theorem fits_row3 : ∀ n, n < 16 → FormatFits (BitVec.ofNat 8 (0x30 + n)) (matrixRow3 n) := by
  intro n hn
  interval_cases n
  · exact fits_two (fun _ => rfl) (fun _ => rfl) rfl fun _ _ h => nomatch h
  · exact fits_two (fun _ => rfl) (fun _ => rfl) rfl fun _ _ h => nomatch h
  · exact fits_undecodable rfl
  · exact fits_two (fun _ => rfl) (fun _ => rfl) rfl fun _ _ h => nomatch h
  · exact fits_two (fun _ => rfl) (fun _ => rfl) rfl fun _ _ h => nomatch h
  · exact fits_two (fun _ => rfl) (fun _ => rfl) rfl fun _ _ h => nomatch h
  · exact fits_two (fun _ => rfl) (fun _ => rfl) rfl fun _ _ h => nomatch h
  · exact fits_two (fun _ => rfl) (fun _ => rfl) rfl fun _ _ h => nomatch h
  · exact fits_one rfl rfl rfl fun _ h => nomatch h
  · exact fits_three (fun _ _ => rfl) (fun _ _ => rfl) rfl fun _ _ _ h => nomatch h
  · exact fits_one rfl rfl rfl fun _ h => nomatch h
  · exact fits_three (fun _ _ => rfl) (fun _ _ => rfl) rfl fun _ _ _ h => nomatch h
  · exact fits_three (fun _ _ => rfl) (fun _ _ => rfl) rfl fun _ _ _ h => nomatch h
  · exact fits_three (fun _ _ => rfl) (fun _ _ => rfl) rfl fun _ _ _ h => nomatch h
  · exact fits_three (fun _ _ => rfl) (fun _ _ => rfl) rfl fun _ _ _ h => nomatch h
  · exact fits_three (fun _ _ => rfl) (fun _ _ => rfl) rfl fun _ _ _ h => nomatch h

theorem fits_row4 : ∀ n, n < 16 → FormatFits (BitVec.ofNat 8 (0x40 + n)) (matrixRow4 n) := by
  intro n hn
  interval_cases n
  · exact fits_one rfl rfl rfl fun _ h => nomatch h
  · exact fits_two (fun _ => rfl) (fun _ => rfl) rfl fun _ _ h => nomatch h
  · exact fits_undecodable rfl
  · exact fits_two (fun _ => rfl) (fun _ => rfl) rfl fun _ _ h => nomatch h
  · exact fits_two (fun _ => rfl) (fun _ => rfl) rfl fun _ _ h => nomatch h
  · exact fits_two (fun _ => rfl) (fun _ => rfl) rfl fun _ _ h => nomatch h
  · exact fits_two (fun _ => rfl) (fun _ => rfl) rfl fun _ _ h => nomatch h
  · exact fits_two (fun _ => rfl) (fun _ => rfl) rfl fun _ _ h => nomatch h
  · exact fits_one rfl rfl rfl fun _ h => nomatch h
  · exact fits_two (fun _ => rfl) (fun _ => rfl) rfl fun _ _ h => nomatch h
  · exact fits_one rfl rfl rfl fun _ h => nomatch h
  · exact fits_undecodable rfl
  · exact fits_three (fun _ _ => rfl) (fun _ _ => rfl) rfl fun _ _ _ h => nomatch h
  · exact fits_three (fun _ _ => rfl) (fun _ _ => rfl) rfl fun _ _ _ h => nomatch h
  · exact fits_three (fun _ _ => rfl) (fun _ _ => rfl) rfl fun _ _ _ h => nomatch h
  · exact fits_three (fun _ _ => rfl) (fun _ _ => rfl) rfl fun _ _ _ h => nomatch h

theorem fits_row5 : ∀ n, n < 16 → FormatFits (BitVec.ofNat 8 (0x50 + n)) (matrixRow5 n) := by
  intro n hn
  interval_cases n
  · exact fits_two (fun _ => rfl) (fun _ => rfl) rfl fun _ _ h => nomatch h
  · exact fits_two (fun _ => rfl) (fun _ => rfl) rfl fun _ _ h => nomatch h
  · exact fits_undecodable rfl
  · exact fits_two (fun _ => rfl) (fun _ => rfl) rfl fun _ _ h => nomatch h
  · exact fits_two (fun _ => rfl) (fun _ => rfl) rfl fun _ _ h => nomatch h
  · exact fits_two (fun _ => rfl) (fun _ => rfl) rfl fun _ _ h => nomatch h
  · exact fits_two (fun _ => rfl) (fun _ => rfl) rfl fun _ _ h => nomatch h
  · exact fits_two (fun _ => rfl) (fun _ => rfl) rfl fun _ _ h => nomatch h
  · exact fits_one rfl rfl rfl fun _ h => nomatch h
  · exact fits_three (fun _ _ => rfl) (fun _ _ => rfl) rfl fun _ _ _ h => nomatch h
  · exact fits_one rfl rfl rfl fun _ h => nomatch h
  · exact fits_three (fun _ _ => rfl) (fun _ _ => rfl) rfl fun _ _ _ h => nomatch h
  · exact fits_three (fun _ _ => rfl) (fun _ _ => rfl) rfl fun _ _ _ h => nomatch h
  · exact fits_three (fun _ _ => rfl) (fun _ _ => rfl) rfl fun _ _ _ h => nomatch h
  · exact fits_three (fun _ _ => rfl) (fun _ _ => rfl) rfl fun _ _ _ h => nomatch h
  · exact fits_three (fun _ _ => rfl) (fun _ _ => rfl) rfl fun _ _ _ h => nomatch h

theorem fits_row6 : ∀ n, n < 16 → FormatFits (BitVec.ofNat 8 (0x60 + n)) (matrixRow6 n) := by
  intro n hn
  interval_cases n
  · exact fits_one rfl rfl rfl fun _ h => nomatch h
  · exact fits_two (fun _ => rfl) (fun _ => rfl) rfl fun _ _ h => nomatch h
  · exact fits_undecodable rfl
  · exact fits_two (fun _ => rfl) (fun _ => rfl) rfl fun _ _ h => nomatch h
  · exact fits_two (fun _ => rfl) (fun _ => rfl) rfl fun _ _ h => nomatch h
  · exact fits_two (fun _ => rfl) (fun _ => rfl) rfl fun _ _ h => nomatch h
  · exact fits_two (fun _ => rfl) (fun _ => rfl) rfl fun _ _ h => nomatch h
  · exact fits_two (fun _ => rfl) (fun _ => rfl) rfl fun _ _ h => nomatch h
  · exact fits_one rfl rfl rfl fun _ h => nomatch h
  · exact fits_two (fun _ => rfl) (fun _ => rfl) rfl fun _ _ h => nomatch h
  · exact fits_one rfl rfl rfl fun _ h => nomatch h
  · exact fits_undecodable rfl
  · exact fits_three (fun _ _ => rfl) (fun _ _ => rfl) rfl fun _ _ _ h => nomatch h
  · exact fits_three (fun _ _ => rfl) (fun _ _ => rfl) rfl fun _ _ _ h => nomatch h
  · exact fits_three (fun _ _ => rfl) (fun _ _ => rfl) rfl fun _ _ _ h => nomatch h
  · exact fits_three (fun _ _ => rfl) (fun _ _ => rfl) rfl fun _ _ _ h => nomatch h

theorem fits_row7 : ∀ n, n < 16 → FormatFits (BitVec.ofNat 8 (0x70 + n)) (matrixRow7 n) := by
  intro n hn
  interval_cases n
  · exact fits_two (fun _ => rfl) (fun _ => rfl) rfl fun _ _ h => nomatch h
  · exact fits_two (fun _ => rfl) (fun _ => rfl) rfl fun _ _ h => nomatch h
  · exact fits_undecodable rfl
  · exact fits_two (fun _ => rfl) (fun _ => rfl) rfl fun _ _ h => nomatch h
  · exact fits_two (fun _ => rfl) (fun _ => rfl) rfl fun _ _ h => nomatch h
  · exact fits_two (fun _ => rfl) (fun _ => rfl) rfl fun _ _ h => nomatch h
  · exact fits_two (fun _ => rfl) (fun _ => rfl) rfl fun _ _ h => nomatch h
  · exact fits_two (fun _ => rfl) (fun _ => rfl) rfl fun _ _ h => nomatch h
  · exact fits_one rfl rfl rfl fun _ h => nomatch h
  · exact fits_three (fun _ _ => rfl) (fun _ _ => rfl) rfl fun _ _ _ h => nomatch h
  · exact fits_one rfl rfl rfl fun _ h => nomatch h
  · exact fits_three (fun _ _ => rfl) (fun _ _ => rfl) rfl fun _ _ _ h => nomatch h
  · exact fits_three (fun _ _ => rfl) (fun _ _ => rfl) rfl fun _ _ _ h => nomatch h
  · exact fits_three (fun _ _ => rfl) (fun _ _ => rfl) rfl fun _ _ _ h => nomatch h
  · exact fits_three (fun _ _ => rfl) (fun _ _ => rfl) rfl fun _ _ _ h => nomatch h
  · exact fits_three (fun _ _ => rfl) (fun _ _ => rfl) rfl fun _ _ _ h => nomatch h

theorem fits_row8 : ∀ n, n < 16 → FormatFits (BitVec.ofNat 8 (0x80 + n)) (matrixRow8 n) := by
  intro n hn
  interval_cases n
  · exact fits_two (fun _ => rfl) (fun _ => rfl) rfl fun _ _ h => nomatch h
  · exact fits_two (fun _ => rfl) (fun _ => rfl) rfl fun _ _ h => nomatch h
  · exact fits_two (fun _ => rfl) (fun _ => rfl) rfl fun _ _ h => nomatch h
  · exact fits_two (fun _ => rfl) (fun _ => rfl) rfl fun _ _ h => nomatch h
  · exact fits_two (fun _ => rfl) (fun _ => rfl) rfl fun _ _ h => nomatch h
  · exact fits_two (fun _ => rfl) (fun _ => rfl) rfl fun _ _ h => nomatch h
  · exact fits_two (fun _ => rfl) (fun _ => rfl) rfl fun _ _ h => nomatch h
  · exact fits_two (fun _ => rfl) (fun _ => rfl) rfl fun _ _ h => nomatch h
  · exact fits_one rfl rfl rfl fun _ h => nomatch h
  · exact fits_two (fun _ => rfl) (fun _ => rfl) rfl fun _ _ h => nomatch h
  · exact fits_one rfl rfl rfl fun _ h => nomatch h
  · exact fits_undecodable rfl
  · exact fits_three (fun _ _ => rfl) (fun _ _ => rfl) rfl fun _ _ _ h => nomatch h
  · exact fits_three (fun _ _ => rfl) (fun _ _ => rfl) rfl fun _ _ _ h => nomatch h
  · exact fits_three (fun _ _ => rfl) (fun _ _ => rfl) rfl fun _ _ _ h => nomatch h
  · exact fits_three (fun _ _ => rfl) (fun _ _ => rfl) rfl fun _ _ _ h => nomatch h

theorem fits_row9 : ∀ n, n < 16 → FormatFits (BitVec.ofNat 8 (0x90 + n)) (matrixRow9 n) := by
  intro n hn
  interval_cases n
  · exact fits_two (fun _ => rfl) (fun _ => rfl) rfl fun _ _ h => nomatch h
  · exact fits_two (fun _ => rfl) (fun _ => rfl) rfl fun _ _ h => nomatch h
  · exact fits_undecodable rfl
  · exact fits_undecodable rfl
  · exact fits_two (fun _ => rfl) (fun _ => rfl) rfl fun _ _ h => nomatch h
  · exact fits_two (fun _ => rfl) (fun _ => rfl) rfl fun _ _ h => nomatch h
  · exact fits_two (fun _ => rfl) (fun _ => rfl) rfl fun _ _ h => nomatch h
  · exact fits_two (fun _ => rfl) (fun _ => rfl) rfl fun _ _ h => nomatch h
  · exact fits_one rfl rfl rfl fun _ h => nomatch h
  · exact fits_three (fun _ _ => rfl) (fun _ _ => rfl) rfl fun _ _ _ h => nomatch h
  · exact fits_one rfl rfl rfl fun _ h => nomatch h
  · exact fits_undecodable rfl
  · exact fits_undecodable rfl
  · exact fits_three (fun _ _ => rfl) (fun _ _ => rfl) rfl fun _ _ _ h => nomatch h
  · exact fits_undecodable rfl
  · exact fits_undecodable rfl

theorem fits_rowA : ∀ n, n < 16 → FormatFits (BitVec.ofNat 8 (0xA0 + n)) (matrixRowA n) := by
  intro n hn
  interval_cases n
  · exact fits_two (fun _ => rfl) (fun _ => rfl) rfl fun _ _ h => nomatch h
  · exact fits_two (fun _ => rfl) (fun _ => rfl) rfl fun _ _ h => nomatch h
  · exact fits_two (fun _ => rfl) (fun _ => rfl) rfl fun _ _ h => nomatch h
  · exact fits_two (fun _ => rfl) (fun _ => rfl) rfl fun _ _ h => nomatch h
  · exact fits_two (fun _ => rfl) (fun _ => rfl) rfl fun _ _ h => nomatch h
  · exact fits_two (fun _ => rfl) (fun _ => rfl) rfl fun _ _ h => nomatch h
  · exact fits_two (fun _ => rfl) (fun _ => rfl) rfl fun _ _ h => nomatch h
  · exact fits_two (fun _ => rfl) (fun _ => rfl) rfl fun _ _ h => nomatch h
  · exact fits_one rfl rfl rfl fun _ h => nomatch h
  · exact fits_two (fun _ => rfl) (fun _ => rfl) rfl fun _ _ h => nomatch h
  · exact fits_one rfl rfl rfl fun _ h => nomatch h
  · exact fits_undecodable rfl
  · exact fits_three (fun _ _ => rfl) (fun _ _ => rfl) rfl fun _ _ _ h => nomatch h
  · exact fits_three (fun _ _ => rfl) (fun _ _ => rfl) rfl fun _ _ _ h => nomatch h
  · exact fits_three (fun _ _ => rfl) (fun _ _ => rfl) rfl fun _ _ _ h => nomatch h
  · exact fits_three (fun _ _ => rfl) (fun _ _ => rfl) rfl fun _ _ _ h => nomatch h

theorem fits_rowB : ∀ n, n < 16 → FormatFits (BitVec.ofNat 8 (0xB0 + n)) (matrixRowB n) := by
  intro n hn
  interval_cases n
  · exact fits_two (fun _ => rfl) (fun _ => rfl) rfl fun _ _ h => nomatch h
  · exact fits_two (fun _ => rfl) (fun _ => rfl) rfl fun _ _ h => nomatch h
  · exact fits_undecodable rfl
  · exact fits_two (fun _ => rfl) (fun _ => rfl) rfl fun _ _ h => nomatch h
  · exact fits_two (fun _ => rfl) (fun _ => rfl) rfl fun _ _ h => nomatch h
  · exact fits_two (fun _ => rfl) (fun _ => rfl) rfl fun _ _ h => nomatch h
  · exact fits_two (fun _ => rfl) (fun _ => rfl) rfl fun _ _ h => nomatch h
  · exact fits_two (fun _ => rfl) (fun _ => rfl) rfl fun _ _ h => nomatch h
  · exact fits_one rfl rfl rfl fun _ h => nomatch h
  · exact fits_three (fun _ _ => rfl) (fun _ _ => rfl) rfl fun _ _ _ h => nomatch h
  · exact fits_one rfl rfl rfl fun _ h => nomatch h
  · exact fits_undecodable rfl
  · exact fits_three (fun _ _ => rfl) (fun _ _ => rfl) rfl fun _ _ _ h => nomatch h
  · exact fits_three (fun _ _ => rfl) (fun _ _ => rfl) rfl fun _ _ _ h => nomatch h
  · exact fits_three (fun _ _ => rfl) (fun _ _ => rfl) rfl fun _ _ _ h => nomatch h
  · exact fits_three (fun _ _ => rfl) (fun _ _ => rfl) rfl fun _ _ _ h => nomatch h

theorem fits_rowC : ∀ n, n < 16 → FormatFits (BitVec.ofNat 8 (0xC0 + n)) (matrixRowC n) := by
  intro n hn
  interval_cases n
  · exact fits_two (fun _ => rfl) (fun _ => rfl) rfl fun _ _ h => nomatch h
  · exact fits_two (fun _ => rfl) (fun _ => rfl) rfl fun _ _ h => nomatch h
  · exact fits_two (fun _ => rfl) (fun _ => rfl) rfl fun _ _ h => nomatch h
  · exact fits_two (fun _ => rfl) (fun _ => rfl) rfl fun _ _ h => nomatch h
  · exact fits_two (fun _ => rfl) (fun _ => rfl) rfl fun _ _ h => nomatch h
  · exact fits_two (fun _ => rfl) (fun _ => rfl) rfl fun _ _ h => nomatch h
  · exact fits_two (fun _ => rfl) (fun _ => rfl) rfl fun _ _ h => nomatch h
  · exact fits_two (fun _ => rfl) (fun _ => rfl) rfl fun _ _ h => nomatch h
  · exact fits_one rfl rfl rfl fun _ h => nomatch h
  · exact fits_two (fun _ => rfl) (fun _ => rfl) rfl fun _ _ h => nomatch h
  · exact fits_one rfl rfl rfl fun _ h => nomatch h
  · exact fits_undecodable rfl
  · exact fits_three (fun _ _ => rfl) (fun _ _ => rfl) rfl fun _ _ _ h => nomatch h
  · exact fits_three (fun _ _ => rfl) (fun _ _ => rfl) rfl fun _ _ _ h => nomatch h
  · exact fits_three (fun _ _ => rfl) (fun _ _ => rfl) rfl fun _ _ _ h => nomatch h
  · exact fits_three (fun _ _ => rfl) (fun _ _ => rfl) rfl fun _ _ _ h => nomatch h

theorem fits_rowD : ∀ n, n < 16 → FormatFits (BitVec.ofNat 8 (0xD0 + n)) (matrixRowD n) := by
  intro n hn
  interval_cases n
  · exact fits_two (fun _ => rfl) (fun _ => rfl) rfl fun _ _ h => nomatch h
  · exact fits_two (fun _ => rfl) (fun _ => rfl) rfl fun _ _ h => nomatch h
  · exact fits_undecodable rfl
  · exact fits_two (fun _ => rfl) (fun _ => rfl) rfl fun _ _ h => nomatch h
  · exact fits_two (fun _ => rfl) (fun _ => rfl) rfl fun _ _ h => nomatch h
  · exact fits_two (fun _ => rfl) (fun _ => rfl) rfl fun _ _ h => nomatch h
  · exact fits_two (fun _ => rfl) (fun _ => rfl) rfl fun _ _ h => nomatch h
  · exact fits_two (fun _ => rfl) (fun _ => rfl) rfl fun _ _ h => nomatch h
  · exact fits_one rfl rfl rfl fun _ h => nomatch h
  · exact fits_three (fun _ _ => rfl) (fun _ _ => rfl) rfl fun _ _ _ h => nomatch h
  · exact fits_one rfl rfl rfl fun _ h => nomatch h
  · exact fits_three (fun _ _ => rfl) (fun _ _ => rfl) rfl fun _ _ _ h => nomatch h
  · exact fits_three (fun _ _ => rfl) (fun _ _ => rfl) rfl fun _ _ _ h => nomatch h
  · exact fits_three (fun _ _ => rfl) (fun _ _ => rfl) rfl fun _ _ _ h => nomatch h
  · exact fits_three (fun _ _ => rfl) (fun _ _ => rfl) rfl fun _ _ _ h => nomatch h
  · exact fits_three (fun _ _ => rfl) (fun _ _ => rfl) rfl fun _ _ _ h => nomatch h

theorem fits_rowE : ∀ n, n < 16 → FormatFits (BitVec.ofNat 8 (0xE0 + n)) (matrixRowE n) := by
  intro n hn
  interval_cases n
  · exact fits_two (fun _ => rfl) (fun _ => rfl) rfl fun _ _ h => nomatch h
  · exact fits_two (fun _ => rfl) (fun _ => rfl) rfl fun _ _ h => nomatch h
  · exact fits_two (fun _ => rfl) (fun _ => rfl) rfl fun _ _ h => nomatch h
  · exact fits_two (fun _ => rfl) (fun _ => rfl) rfl fun _ _ h => nomatch h
  · exact fits_two (fun _ => rfl) (fun _ => rfl) rfl fun _ _ h => nomatch h
  · exact fits_two (fun _ => rfl) (fun _ => rfl) rfl fun _ _ h => nomatch h
  · exact fits_two (fun _ => rfl) (fun _ => rfl) rfl fun _ _ h => nomatch h
  · exact fits_two (fun _ => rfl) (fun _ => rfl) rfl fun _ _ h => nomatch h
  · exact fits_one rfl rfl rfl fun _ h => nomatch h
  · exact fits_two (fun _ => rfl) (fun _ => rfl) rfl fun _ _ h => nomatch h
  · exact fits_one rfl rfl rfl fun _ h => nomatch h
  · exact fits_two (fun _ => rfl) (fun _ => rfl) rfl fun _ _ h => nomatch h
  · exact fits_three (fun _ _ => rfl) (fun _ _ => rfl) rfl fun _ _ _ h => nomatch h
  · exact fits_three (fun _ _ => rfl) (fun _ _ => rfl) rfl fun _ _ _ h => nomatch h
  · exact fits_three (fun _ _ => rfl) (fun _ _ => rfl) rfl fun _ _ _ h => nomatch h
  · exact fits_three (fun _ _ => rfl) (fun _ _ => rfl) rfl fun _ _ _ h => nomatch h

theorem fits_rowF : ∀ n, n < 16 → FormatFits (BitVec.ofNat 8 (0xF0 + n)) (matrixRowF n) := by
  intro n hn
  interval_cases n
  · exact fits_two (fun _ => rfl) (fun _ => rfl) rfl fun _ _ h => nomatch h
  · exact fits_two (fun _ => rfl) (fun _ => rfl) rfl fun _ _ h => nomatch h
  · exact fits_undecodable rfl
  · exact fits_two (fun _ => rfl) (fun _ => rfl) rfl fun _ _ h => nomatch h
  · exact fits_two (fun _ => rfl) (fun _ => rfl) rfl fun _ _ h => nomatch h
  · exact fits_two (fun _ => rfl) (fun _ => rfl) rfl fun _ _ h => nomatch h
  · exact fits_two (fun _ => rfl) (fun _ => rfl) rfl fun _ _ h => nomatch h
  · exact fits_two (fun _ => rfl) (fun _ => rfl) rfl fun _ _ h => nomatch h
  · exact fits_one rfl rfl rfl fun _ h => nomatch h
  · exact fits_three (fun _ _ => rfl) (fun _ _ => rfl) rfl fun _ _ _ h => nomatch h
  · exact fits_one rfl rfl rfl fun _ h => nomatch h
  · exact fits_three (fun _ _ => rfl) (fun _ _ => rfl) rfl fun _ _ _ h => nomatch h
  · exact fits_three (fun _ _ => rfl) (fun _ _ => rfl) rfl fun _ _ _ h => nomatch h
  · exact fits_three (fun _ _ => rfl) (fun _ _ => rfl) rfl fun _ _ _ h => nomatch h
  · exact fits_three (fun _ _ => rfl) (fun _ _ => rfl) rfl fun _ _ _ h => nomatch h
  · exact fits_three (fun _ _ => rfl) (fun _ _ => rfl) rfl fun _ _ _ h => nomatch h

/-- Every cell of the matrix fits its opcode byte. -/
theorem opcodeFormat_fits (op : Byte) : FormatFits op (opcodeFormat op) := by
  have hop := op.isLt
  have h : op = BitVec.ofNat 8 (16 * (op.toNat / 16) + op.toNat % 16) := by
    apply BitVec.eq_of_toNat_eq; rw [BitVec.toNat_ofNat]; omega
  have hn : op.toNat % 16 < 16 := Nat.mod_lt _ (by decide)
  have hk : op.toNat / 16 < 16 := by omega
  unfold opcodeFormat
  generalize op.toNat % 16 = n at *
  generalize op.toNat / 16 = k at *
  subst h
  interval_cases k
  · exact fits_row0 n hn
  · exact fits_row1 n hn
  · exact fits_row2 n hn
  · exact fits_row3 n hn
  · exact fits_row4 n hn
  · exact fits_row5 n hn
  · exact fits_row6 n hn
  · exact fits_row7 n hn
  · exact fits_row8 n hn
  · exact fits_row9 n hn
  · exact fits_rowA n hn
  · exact fits_rowB n hn
  · exact fits_rowC n hn
  · exact fits_rowD n hn
  · exact fits_rowE n hn
  · exact fits_rowF n hn

end Sys2Proof
end

