-- ==== Sys2Proof/Laws/Exec.lean ====
section
/-! SUPPORT. What holds after every instruction: a property of states that the bus accesses and the updates of CPU
registers keep is kept by every shared operation, by every meaning and by the fetch; and every meaning answers a next
state. The frames of the stack operations follow from it. -/

namespace Sys2Proof.Machine

/-- A property of states that the accesses and updates an instruction is made of all keep. -/
structure Closed (P : State → Prop) : Prop where
  setA : ∀ s v, P s → P (s.setA v)
  setX : ∀ s v, P s → P (s.setX v)
  setY : ∀ s v, P s → P (s.setY v)
  setSp : ∀ s v, P s → P (s.setSp v)
  setPc : ∀ s v, P s → P (s.setPc v)
  setP : ∀ s v, P s → P (s.setP v)
  charge : ∀ n s, P s → P (charge n s)
  read8 : ∀ a s, P s → P (read8 a s).2
  write8 : ∀ a v s, P s → P (write8 a v s)
  latched : ∀ a s, P s → P (onlyLatched s (Machine.read8 a s).2)

namespace Closed

variable {P : State → Prop} (h : Closed P) {s : State}
include h

/-! ## Operations -/

theorem push8 (v : Byte) (hs : P s) : P (push8 v s) := by
  unfold Machine.push8
  split
  · exact h.write8 _ _ _ (h.setSp _ _ hs)
  · exact h.setSp _ _ (h.write8 _ _ _ hs)

theorem pull8 (hs : P s) : P (pull8 s).2 := by
  unfold Machine.pull8
  split
  · exact h.setSp _ _ (h.read8 _ _ hs)
  · exact h.read8 _ _ (h.setSp _ _ hs)

theorem push16 (w : Addr) (hs : P s) : P (push16 w s) := h.push8 _ (h.push8 _ hs)

theorem pull16 (hs : P s) : P (pull16 s).2 := h.pull8 (h.pull8 hs)

theorem read16 (a : Addr) (hs : P s) : P (read16 a s).2 := h.read8 _ _ (h.read8 _ _ hs)

theorem read16SamePage (a : Addr) (hs : P s) : P (read16SamePage a s).2 := h.read8 _ _ (h.read8 _ _ hs)

theorem enterInterrupt (ret : Addr) (brk setI : Bool) (vec : Addr) (hs : P s) :
    P (enterInterrupt ret brk setI vec s) := by
  unfold Machine.enterInterrupt
  refine h.setPc _ _ (h.read16 _ ?_)
  split
  · exact h.setP _ _ (h.push8 _ (h.push16 _ hs))
  · exact h.push8 _ (h.push16 _ hs)

theorem returnFromInterrupt (hs : P s) : P (returnFromInterrupt s) :=
  h.setPc _ _ (h.pull16 (h.setP _ _ (h.pull8 hs)))

theorem advance (n : Nat) (hs : P s) : P (advance n s) := h.setPc _ _ hs

theorem resolve (m : Mode) (hs : P s) : P (m.resolve s).st := by
  cases m with
  | izx b1 => exact h.read16SamePage _ hs
  | izy b1 => exact h.read16SamePage _ hs
  | _ => exact hs

theorem afterOpcode (i : Instr) (a : Addr) (hs : P s) : P (afterOpcode i s (Machine.read8 a s).2) := by
  unfold Machine.afterOpcode
  split
  · exact h.latched a s hs
  · exact h.read8 a s hs

theorem fetch (hs : P s) : P (fetch s).2 := by
  unfold Machine.fetch
  simp only []
  split
  · exact h.afterOpcode _ _ hs
  · exact h.read8 _ _ (h.read8 _ _ hs)
  · exact h.read8 _ _ (h.read8 _ _ (h.read8 _ _ hs))

/-! ## What the instructions do with a byte -/

theorem loadA (m : Byte) (hs : P s) : P (loadA m s) := h.setP _ _ (h.setA _ _ hs)
theorem loadX (m : Byte) (hs : P s) : P (loadX m s) := h.setP _ _ (h.setX _ _ hs)
theorem loadY (m : Byte) (hs : P s) : P (loadY m s) := h.setP _ _ (h.setY _ _ hs)
theorem loadAX (m : Byte) (hs : P s) : P (loadAX m s) := h.setP _ _ (h.setX _ _ (h.setA _ _ hs))
theorem addA (m : Byte) (hs : P s) : P (addA m s) := h.setP _ _ (h.setA _ _ hs)
theorem subA (m : Byte) (hs : P s) : P (subA m s) := h.addA _ hs
theorem andA (m : Byte) (hs : P s) : P (andA m s) := h.loadA _ hs
theorem orA (m : Byte) (hs : P s) : P (orA m s) := h.loadA _ hs
theorem xorA (m : Byte) (hs : P s) : P (xorA m s) := h.loadA _ hs
theorem compareA (m : Byte) (hs : P s) : P (compareA m s) := h.setP _ _ hs
theorem compareX (m : Byte) (hs : P s) : P (compareX m s) := h.setP _ _ hs
theorem compareY (m : Byte) (hs : P s) : P (compareY m s) := h.setP _ _ hs
theorem testBits (m : Byte) (hs : P s) : P (testBits m s) := h.setP _ _ hs
theorem flagsOf (m : Byte) (hs : P s) : P (flagsOf m s) := h.setP _ _ hs

theorem aslByte (m : Byte) (hs : P s) : P (aslByte m s).2 := h.setP _ _ hs
theorem lsrByte (m : Byte) (hs : P s) : P (lsrByte m s).2 := h.setP _ _ hs
theorem rolByte (m : Byte) (hs : P s) : P (rolByte m s).2 := h.setP _ _ hs
theorem rorByte (m : Byte) (hs : P s) : P (rorByte m s).2 := h.setP _ _ hs

/-! ## The shapes of instruction: each answers a next state, which keeps the property -/

theorem plain {len base : Nat} {f : State → State} (hf : ∀ s, P s → P (f s)) (hs : P s) :
    ∃ t, plain len base f s = .next t ∧ P t :=
  ⟨_, rfl, h.charge _ _ (hf _ (h.advance _ hs))⟩

theorem reads {m : Mode} {base : Nat} {pp : Bool} {f : Byte → State → State} (hf : ∀ v s, P s → P (f v s))
    (hs : P s) : ∃ t, reads m base pp f s = .next t ∧ P t :=
  ⟨_, rfl, h.charge _ _ (hf _ _ (h.read8 _ _ (h.resolve m (h.advance _ hs))))⟩

theorem stores {m : Mode} {base : Nat} {src : State → Byte} (hs : P s) : ∃ t, stores m base src s = .next t ∧ P t :=
  ⟨_, rfl, h.charge _ _ (h.write8 _ _ _ (h.resolve m (h.advance _ hs)))⟩

theorem modifies {m : Mode} {base : Nat} {f : Byte → State → Byte × State} {g : Byte → State → State}
    (hf : ∀ v s, P s → P (f v s).2) (hg : ∀ v s, P s → P (g v s)) (hs : P s) :
    ∃ t, modifies m base f g s = .next t ∧ P t :=
  ⟨_, rfl, h.charge _ _ (hg _ _ (h.write8 _ _ _ (hf _ _ (h.read8 _ _ (h.resolve m (h.advance _ hs))))))⟩

theorem modifiesA {base : Nat} {f : Byte → State → Byte × State} {g : Byte → State → State}
    (hf : ∀ v s, P s → P (f v s).2) (hg : ∀ v s, P s → P (g v s)) (hs : P s) :
    ∃ t, modifiesA base f g s = .next t ∧ P t :=
  ⟨_, rfl, h.charge _ _ (hg _ _ (h.setA _ _ (hf _ _ (h.advance _ hs))))⟩

theorem skips {m : Mode} {base : Nat} {pp : Bool} (hs : P s) : ∃ t, skips m base pp s = .next t ∧ P t :=
  ⟨_, rfl, h.charge _ _ (h.resolve m (h.advance _ hs))⟩

theorem branches {c : Bool} {b1 : Byte} (hs : P s) : ∃ t, branches c b1 s = .next t ∧ P t := by
  unfold Machine.branches
  simp only []
  split
  · exact ⟨_, rfl, h.charge _ _ (h.setPc _ _ hs)⟩
  · exact ⟨_, rfl, h.charge _ _ (h.setPc _ _ hs)⟩

/-- Every instruction answers a next state, and the property holds there; for an undecodable byte where the latched
fault keeps it too. -/
theorem exec (i : Instr) (hr : ∀ op, i = .undecodable op → ∀ r, P (raise r s)) (hs : P s) :
    ∃ t, exec i s = .next t ∧ P t := by
  cases i with
  | undecodable op => exact ⟨_, rfl, hr op rfl _⟩
  | brk => exact h.plain (fun s hs => h.enterInterrupt _ _ _ _ hs) hs
  | oraIzx b1 => exact h.reads (fun m s hs => h.orA m hs) hs
  | sloIzx b1 => exact h.modifies (fun m s hs => h.aslByte m hs) (fun m s hs => h.orA m hs) hs
  | nopZp04 b1 => exact h.skips hs
  | oraZp b1 => exact h.reads (fun m s hs => h.orA m hs) hs
  | aslZp b1 => exact h.modifies (fun m s hs => h.aslByte m hs) (fun m s hs => h.flagsOf m hs) hs
  | sloZp b1 => exact h.modifies (fun m s hs => h.aslByte m hs) (fun m s hs => h.orA m hs) hs
  | php => exact h.plain (fun s hs => h.push8 _ hs) hs
  | oraImm b1 => exact h.plain (fun s hs => h.orA b1 hs) hs
  | aslAcc => exact h.modifiesA (fun m s hs => h.aslByte m hs) (fun m s hs => h.flagsOf m hs) hs
  | nopAbs0C b1 b2 => exact h.skips hs
  | oraAbs b1 b2 => exact h.reads (fun m s hs => h.orA m hs) hs
  | aslAbs b1 b2 => exact h.modifies (fun m s hs => h.aslByte m hs) (fun m s hs => h.flagsOf m hs) hs
  | sloAbs b1 b2 => exact h.modifies (fun m s hs => h.aslByte m hs) (fun m s hs => h.orA m hs) hs
  | bpl b1 => exact h.branches hs
  | oraIzy b1 => exact h.reads (fun m s hs => h.orA m hs) hs
  | sloIzy b1 => exact h.modifies (fun m s hs => h.aslByte m hs) (fun m s hs => h.orA m hs) hs
  | nopZpx14 b1 => exact h.skips hs
  | oraZpx b1 => exact h.reads (fun m s hs => h.orA m hs) hs
  | aslZpx b1 => exact h.modifies (fun m s hs => h.aslByte m hs) (fun m s hs => h.flagsOf m hs) hs
  | sloZpx b1 => exact h.modifies (fun m s hs => h.aslByte m hs) (fun m s hs => h.orA m hs) hs
  | clc => exact h.plain (fun s hs => h.setP _ _ hs) hs
  | oraAby b1 b2 => exact h.reads (fun m s hs => h.orA m hs) hs
  | nop1A => exact h.plain (fun s hs => hs) hs
  | sloAby b1 b2 => exact h.modifies (fun m s hs => h.aslByte m hs) (fun m s hs => h.orA m hs) hs
  | nopAbx1C b1 b2 => exact h.skips hs
  | oraAbx b1 b2 => exact h.reads (fun m s hs => h.orA m hs) hs
  | aslAbx b1 b2 => exact h.modifies (fun m s hs => h.aslByte m hs) (fun m s hs => h.flagsOf m hs) hs
  | sloAbx b1 b2 => exact h.modifies (fun m s hs => h.aslByte m hs) (fun m s hs => h.orA m hs) hs
  | jsr b1 b2 => exact h.plain (fun s hs => h.setPc _ _ (h.push16 _ hs)) hs
  | andIzx b1 => exact h.reads (fun m s hs => h.andA m hs) hs
  | rlaIzx b1 => exact h.modifies (fun m s hs => h.rolByte m hs) (fun m s hs => h.andA m hs) hs
  | bitZp b1 => exact h.reads (fun m s hs => h.testBits m hs) hs
  | andZp b1 => exact h.reads (fun m s hs => h.andA m hs) hs
  | rolZp b1 => exact h.modifies (fun m s hs => h.rolByte m hs) (fun m s hs => h.flagsOf m hs) hs
  | rlaZp b1 => exact h.modifies (fun m s hs => h.rolByte m hs) (fun m s hs => h.andA m hs) hs
  | plp => exact h.plain (fun s hs => h.setP _ _ (h.pull8 hs)) hs
  | andImm b1 => exact h.plain (fun s hs => h.andA b1 hs) hs
  | rolAcc => exact h.modifiesA (fun m s hs => h.rolByte m hs) (fun m s hs => h.flagsOf m hs) hs
  | bitAbs b1 b2 => exact h.reads (fun m s hs => h.testBits m hs) hs
  | andAbs b1 b2 => exact h.reads (fun m s hs => h.andA m hs) hs
  | rolAbs b1 b2 => exact h.modifies (fun m s hs => h.rolByte m hs) (fun m s hs => h.flagsOf m hs) hs
  | rlaAbs b1 b2 => exact h.modifies (fun m s hs => h.rolByte m hs) (fun m s hs => h.andA m hs) hs
  | bmi b1 => exact h.branches hs
  | andIzy b1 => exact h.reads (fun m s hs => h.andA m hs) hs
  | rlaIzy b1 => exact h.modifies (fun m s hs => h.rolByte m hs) (fun m s hs => h.andA m hs) hs
  | nopZpx34 b1 => exact h.skips hs
  | andZpx b1 => exact h.reads (fun m s hs => h.andA m hs) hs
  | rolZpx b1 => exact h.modifies (fun m s hs => h.rolByte m hs) (fun m s hs => h.flagsOf m hs) hs
  | rlaZpx b1 => exact h.modifies (fun m s hs => h.rolByte m hs) (fun m s hs => h.andA m hs) hs
  | sec => exact h.plain (fun s hs => h.setP _ _ hs) hs
  | andAby b1 b2 => exact h.reads (fun m s hs => h.andA m hs) hs
  | nop3A => exact h.plain (fun s hs => hs) hs
  | rlaAby b1 b2 => exact h.modifies (fun m s hs => h.rolByte m hs) (fun m s hs => h.andA m hs) hs
  | nopAbx3C b1 b2 => exact h.skips hs
  | andAbx b1 b2 => exact h.reads (fun m s hs => h.andA m hs) hs
  | rolAbx b1 b2 => exact h.modifies (fun m s hs => h.rolByte m hs) (fun m s hs => h.flagsOf m hs) hs
  | rlaAbx b1 b2 => exact h.modifies (fun m s hs => h.rolByte m hs) (fun m s hs => h.andA m hs) hs
  | rti => exact h.plain (fun s hs => h.returnFromInterrupt hs) hs
  | eorIzx b1 => exact h.reads (fun m s hs => h.xorA m hs) hs
  | sreIzx b1 => exact h.modifies (fun m s hs => h.lsrByte m hs) (fun m s hs => h.xorA m hs) hs
  | nopZp44 b1 => exact h.skips hs
  | eorZp b1 => exact h.reads (fun m s hs => h.xorA m hs) hs
  | lsrZp b1 => exact h.modifies (fun m s hs => h.lsrByte m hs) (fun m s hs => h.flagsOf m hs) hs
  | sreZp b1 => exact h.modifies (fun m s hs => h.lsrByte m hs) (fun m s hs => h.xorA m hs) hs
  | pha => exact h.plain (fun s hs => h.push8 _ hs) hs
  | eorImm b1 => exact h.plain (fun s hs => h.xorA b1 hs) hs
  | lsrAcc => exact h.modifiesA (fun m s hs => h.lsrByte m hs) (fun m s hs => h.flagsOf m hs) hs
  | jmpAbs b1 b2 => exact h.plain (fun s hs => h.setPc _ _ hs) hs
  | eorAbs b1 b2 => exact h.reads (fun m s hs => h.xorA m hs) hs
  | lsrAbs b1 b2 => exact h.modifies (fun m s hs => h.lsrByte m hs) (fun m s hs => h.flagsOf m hs) hs
  | sreAbs b1 b2 => exact h.modifies (fun m s hs => h.lsrByte m hs) (fun m s hs => h.xorA m hs) hs
  | bvc b1 => exact h.branches hs
  | eorIzy b1 => exact h.reads (fun m s hs => h.xorA m hs) hs
  | sreIzy b1 => exact h.modifies (fun m s hs => h.lsrByte m hs) (fun m s hs => h.xorA m hs) hs
  | nopZpx54 b1 => exact h.skips hs
  | eorZpx b1 => exact h.reads (fun m s hs => h.xorA m hs) hs
  | lsrZpx b1 => exact h.modifies (fun m s hs => h.lsrByte m hs) (fun m s hs => h.flagsOf m hs) hs
  | sreZpx b1 => exact h.modifies (fun m s hs => h.lsrByte m hs) (fun m s hs => h.xorA m hs) hs
  | cli => exact h.plain (fun s hs => h.setP _ _ hs) hs
  | eorAby b1 b2 => exact h.reads (fun m s hs => h.xorA m hs) hs
  | nop5A => exact h.plain (fun s hs => hs) hs
  | sreAby b1 b2 => exact h.modifies (fun m s hs => h.lsrByte m hs) (fun m s hs => h.xorA m hs) hs
  | nopAbx5C b1 b2 => exact h.skips hs
  | eorAbx b1 b2 => exact h.reads (fun m s hs => h.xorA m hs) hs
  | lsrAbx b1 b2 => exact h.modifies (fun m s hs => h.lsrByte m hs) (fun m s hs => h.flagsOf m hs) hs
  | sreAbx b1 b2 => exact h.modifies (fun m s hs => h.lsrByte m hs) (fun m s hs => h.xorA m hs) hs
  | rts => exact h.plain (fun s hs => h.setPc _ _ (h.pull16 hs)) hs
  | adcIzx b1 => exact h.reads (fun m s hs => h.addA m hs) hs
  | rraIzx b1 => exact h.modifies (fun m s hs => h.rorByte m hs) (fun m s hs => h.addA m hs) hs
  | nopZp64 b1 => exact h.skips hs
  | adcZp b1 => exact h.reads (fun m s hs => h.addA m hs) hs
  | rorZp b1 => exact h.modifies (fun m s hs => h.rorByte m hs) (fun m s hs => h.flagsOf m hs) hs
  | rraZp b1 => exact h.modifies (fun m s hs => h.rorByte m hs) (fun m s hs => h.addA m hs) hs
  | pla => exact h.plain (fun s hs => h.loadA _ (h.pull8 hs)) hs
  | adcImm b1 => exact h.plain (fun s hs => h.addA b1 hs) hs
  | rorAcc => exact h.modifiesA (fun m s hs => h.rorByte m hs) (fun m s hs => h.flagsOf m hs) hs
  | jmpInd b1 b2 => exact h.plain (fun s hs => h.setPc _ _ (h.read16SamePage _ hs)) hs
  | adcAbs b1 b2 => exact h.reads (fun m s hs => h.addA m hs) hs
  | rorAbs b1 b2 => exact h.modifies (fun m s hs => h.rorByte m hs) (fun m s hs => h.flagsOf m hs) hs
  | rraAbs b1 b2 => exact h.modifies (fun m s hs => h.rorByte m hs) (fun m s hs => h.addA m hs) hs
  | bvs b1 => exact h.branches hs
  | adcIzy b1 => exact h.reads (fun m s hs => h.addA m hs) hs
  | rraIzy b1 => exact h.modifies (fun m s hs => h.rorByte m hs) (fun m s hs => h.addA m hs) hs
  | nopZpx74 b1 => exact h.skips hs
  | adcZpx b1 => exact h.reads (fun m s hs => h.addA m hs) hs
  | rorZpx b1 => exact h.modifies (fun m s hs => h.rorByte m hs) (fun m s hs => h.flagsOf m hs) hs
  | rraZpx b1 => exact h.modifies (fun m s hs => h.rorByte m hs) (fun m s hs => h.addA m hs) hs
  | sei => exact h.plain (fun s hs => h.setP _ _ hs) hs
  | adcAby b1 b2 => exact h.reads (fun m s hs => h.addA m hs) hs
  | nop7A => exact h.plain (fun s hs => hs) hs
  | rraAby b1 b2 => exact h.modifies (fun m s hs => h.rorByte m hs) (fun m s hs => h.addA m hs) hs
  | nopAbx7C b1 b2 => exact h.skips hs
  | adcAbx b1 b2 => exact h.reads (fun m s hs => h.addA m hs) hs
  | rorAbx b1 b2 => exact h.modifies (fun m s hs => h.rorByte m hs) (fun m s hs => h.flagsOf m hs) hs
  | rraAbx b1 b2 => exact h.modifies (fun m s hs => h.rorByte m hs) (fun m s hs => h.addA m hs) hs
  | nopImm80 b1 => exact h.plain (fun s hs => hs) hs
  | staIzx b1 => exact h.stores (src := State.a) hs
  | nopImm82 b1 => exact h.plain (fun s hs => hs) hs
  | saxIzx b1 => exact h.stores (src := (fun s => s.a &&& s.x)) hs
  | styZp b1 => exact h.stores (src := State.y) hs
  | staZp b1 => exact h.stores (src := State.a) hs
  | stxZp b1 => exact h.stores (src := State.x) hs
  | saxZp b1 => exact h.stores (src := (fun s => s.a &&& s.x)) hs
  | dey => exact h.plain (fun s hs => h.loadY _ hs) hs
  | nopImm89 b1 => exact h.plain (fun s hs => hs) hs
  | txa => exact h.plain (fun s hs => h.loadA _ hs) hs
  | styAbs b1 b2 => exact h.stores (src := State.y) hs
  | staAbs b1 b2 => exact h.stores (src := State.a) hs
  | stxAbs b1 b2 => exact h.stores (src := State.x) hs
  | saxAbs b1 b2 => exact h.stores (src := (fun s => s.a &&& s.x)) hs
  | bcc b1 => exact h.branches hs
  | staIzy b1 => exact h.stores (src := State.a) hs
  | styZpx b1 => exact h.stores (src := State.y) hs
  | staZpx b1 => exact h.stores (src := State.a) hs
  | stxZpy b1 => exact h.stores (src := State.x) hs
  | saxZpy b1 => exact h.stores (src := (fun s => s.a &&& s.x)) hs
  | tya => exact h.plain (fun s hs => h.loadA _ hs) hs
  | staAby b1 b2 => exact h.stores (src := State.a) hs
  | txs => exact h.plain (fun s hs => h.setSp _ _ hs) hs
  | staAbx b1 b2 => exact h.stores (src := State.a) hs
  | ldyImm b1 => exact h.plain (fun s hs => h.loadY b1 hs) hs
  | ldaIzx b1 => exact h.reads (fun m s hs => h.loadA m hs) hs
  | ldxImm b1 => exact h.plain (fun s hs => h.loadX b1 hs) hs
  | laxIzx b1 => exact h.reads (fun m s hs => h.loadAX m hs) hs
  | ldyZp b1 => exact h.reads (fun m s hs => h.loadY m hs) hs
  | ldaZp b1 => exact h.reads (fun m s hs => h.loadA m hs) hs
  | ldxZp b1 => exact h.reads (fun m s hs => h.loadX m hs) hs
  | laxZp b1 => exact h.reads (fun m s hs => h.loadAX m hs) hs
  | tay => exact h.plain (fun s hs => h.loadY _ hs) hs
  | ldaImm b1 => exact h.plain (fun s hs => h.loadA b1 hs) hs
  | tax => exact h.plain (fun s hs => h.loadX _ hs) hs
  | ldyAbs b1 b2 => exact h.reads (fun m s hs => h.loadY m hs) hs
  | ldaAbs b1 b2 => exact h.reads (fun m s hs => h.loadA m hs) hs
  | ldxAbs b1 b2 => exact h.reads (fun m s hs => h.loadX m hs) hs
  | laxAbs b1 b2 => exact h.reads (fun m s hs => h.loadAX m hs) hs
  | bcs b1 => exact h.branches hs
  | ldaIzy b1 => exact h.reads (fun m s hs => h.loadA m hs) hs
  | laxIzy b1 => exact h.reads (fun m s hs => h.loadAX m hs) hs
  | ldyZpx b1 => exact h.reads (fun m s hs => h.loadY m hs) hs
  | ldaZpx b1 => exact h.reads (fun m s hs => h.loadA m hs) hs
  | ldxZpy b1 => exact h.reads (fun m s hs => h.loadX m hs) hs
  | laxZpy b1 => exact h.reads (fun m s hs => h.loadAX m hs) hs
  | clv => exact h.plain (fun s hs => h.setP _ _ hs) hs
  | ldaAby b1 b2 => exact h.reads (fun m s hs => h.loadA m hs) hs
  | tsx => exact h.plain (fun s hs => h.loadX _ hs) hs
  | ldyAbx b1 b2 => exact h.reads (fun m s hs => h.loadY m hs) hs
  | ldaAbx b1 b2 => exact h.reads (fun m s hs => h.loadA m hs) hs
  | ldxAby b1 b2 => exact h.reads (fun m s hs => h.loadX m hs) hs
  | laxAby b1 b2 => exact h.reads (fun m s hs => h.loadAX m hs) hs
  | cpyImm b1 => exact h.plain (fun s hs => h.compareY b1 hs) hs
  | cmpIzx b1 => exact h.reads (fun m s hs => h.compareA m hs) hs
  | nopImmC2 b1 => exact h.plain (fun s hs => hs) hs
  | dcpIzx b1 => exact h.modifies (fun m s hs => hs) (fun m s hs => h.compareA m hs) hs
  | cpyZp b1 => exact h.reads (fun m s hs => h.compareY m hs) hs
  | cmpZp b1 => exact h.reads (fun m s hs => h.compareA m hs) hs
  | decZp b1 => exact h.modifies (fun m s hs => hs) (fun m s hs => h.flagsOf m hs) hs
  | dcpZp b1 => exact h.modifies (fun m s hs => hs) (fun m s hs => h.compareA m hs) hs
  | iny => exact h.plain (fun s hs => h.loadY _ hs) hs
  | cmpImm b1 => exact h.plain (fun s hs => h.compareA b1 hs) hs
  | dex => exact h.plain (fun s hs => h.loadX _ hs) hs
  | cpyAbs b1 b2 => exact h.reads (fun m s hs => h.compareY m hs) hs
  | cmpAbs b1 b2 => exact h.reads (fun m s hs => h.compareA m hs) hs
  | decAbs b1 b2 => exact h.modifies (fun m s hs => hs) (fun m s hs => h.flagsOf m hs) hs
  | dcpAbs b1 b2 => exact h.modifies (fun m s hs => hs) (fun m s hs => h.compareA m hs) hs
  | bne b1 => exact h.branches hs
  | cmpIzy b1 => exact h.reads (fun m s hs => h.compareA m hs) hs
  | dcpIzy b1 => exact h.modifies (fun m s hs => hs) (fun m s hs => h.compareA m hs) hs
  | nopZpxD4 b1 => exact h.skips hs
  | cmpZpx b1 => exact h.reads (fun m s hs => h.compareA m hs) hs
  | decZpx b1 => exact h.modifies (fun m s hs => hs) (fun m s hs => h.flagsOf m hs) hs
  | dcpZpx b1 => exact h.modifies (fun m s hs => hs) (fun m s hs => h.compareA m hs) hs
  | cld => exact h.plain (fun s hs => h.setP _ _ hs) hs
  | cmpAby b1 b2 => exact h.reads (fun m s hs => h.compareA m hs) hs
  | nopDA => exact h.plain (fun s hs => hs) hs
  | dcpAby b1 b2 => exact h.modifies (fun m s hs => hs) (fun m s hs => h.compareA m hs) hs
  | nopAbxDC b1 b2 => exact h.skips hs
  | cmpAbx b1 b2 => exact h.reads (fun m s hs => h.compareA m hs) hs
  | decAbx b1 b2 => exact h.modifies (fun m s hs => hs) (fun m s hs => h.flagsOf m hs) hs
  | dcpAbx b1 b2 => exact h.modifies (fun m s hs => hs) (fun m s hs => h.compareA m hs) hs
  | cpxImm b1 => exact h.plain (fun s hs => h.compareX b1 hs) hs
  | sbcIzx b1 => exact h.reads (fun m s hs => h.subA m hs) hs
  | nopImmE2 b1 => exact h.plain (fun s hs => hs) hs
  | iscIzx b1 => exact h.modifies (fun m s hs => hs) (fun m s hs => h.subA m hs) hs
  | cpxZp b1 => exact h.reads (fun m s hs => h.compareX m hs) hs
  | sbcZp b1 => exact h.reads (fun m s hs => h.subA m hs) hs
  | incZp b1 => exact h.modifies (fun m s hs => hs) (fun m s hs => h.flagsOf m hs) hs
  | iscZp b1 => exact h.modifies (fun m s hs => hs) (fun m s hs => h.subA m hs) hs
  | inx => exact h.plain (fun s hs => h.loadX _ hs) hs
  | sbcImm b1 => exact h.plain (fun s hs => h.subA b1 hs) hs
  | nop => exact h.plain (fun s hs => hs) hs
  | sbcImmEB b1 => exact h.plain (fun s hs => h.subA b1 hs) hs
  | cpxAbs b1 b2 => exact h.reads (fun m s hs => h.compareX m hs) hs
  | sbcAbs b1 b2 => exact h.reads (fun m s hs => h.subA m hs) hs
  | incAbs b1 b2 => exact h.modifies (fun m s hs => hs) (fun m s hs => h.flagsOf m hs) hs
  | iscAbs b1 b2 => exact h.modifies (fun m s hs => hs) (fun m s hs => h.subA m hs) hs
  | beq b1 => exact h.branches hs
  | sbcIzy b1 => exact h.reads (fun m s hs => h.subA m hs) hs
  | iscIzy b1 => exact h.modifies (fun m s hs => hs) (fun m s hs => h.subA m hs) hs
  | nopZpxF4 b1 => exact h.skips hs
  | sbcZpx b1 => exact h.reads (fun m s hs => h.subA m hs) hs
  | incZpx b1 => exact h.modifies (fun m s hs => hs) (fun m s hs => h.flagsOf m hs) hs
  | iscZpx b1 => exact h.modifies (fun m s hs => hs) (fun m s hs => h.subA m hs) hs
  | sed => exact h.plain (fun s hs => h.setP _ _ hs) hs
  | sbcAby b1 b2 => exact h.reads (fun m s hs => h.subA m hs) hs
  | nopFA => exact h.plain (fun s hs => hs) hs
  | iscAby b1 b2 => exact h.modifies (fun m s hs => hs) (fun m s hs => h.subA m hs) hs
  | nopAbxFC b1 b2 => exact h.skips hs
  | sbcAbx b1 b2 => exact h.reads (fun m s hs => h.subA m hs) hs
  | incAbx b1 b2 => exact h.modifies (fun m s hs => hs) (fun m s hs => h.flagsOf m hs) hs
  | iscAbx b1 b2 => exact h.modifies (fun m s hs => hs) (fun m s hs => h.subA m hs) hs

end Closed

/-- Every instruction answers a next state, in every state (R801). -/
theorem exec_answers (i : Instr) (s : State) : ∃ t, exec i s = .next t := by
  have h : Closed fun _ => True := by constructor <;> (intros; trivial)
  obtain ⟨t, ht, _⟩ := h.exec i (s := s) (fun _ _ _ => trivial) trivial
  exact ⟨t, ht⟩

end Sys2Proof.Machine
end

