-- ==== Sys2Proof/Laws/Flags.lean ====
section
/-! SUPPORT. The flag computations and byte changes as statements about numbers (R436, R110, R112, R451 to R454). -/

namespace Sys2Proof.Machine

theorem bit7_eq (v : Byte) : v.getLsbD 7 = decide (128 ≤ v.toNat) := by revert v; decide

theorem bit6_eq (v : Byte) : v.getLsbD 6 = decide (64 ≤ v.toNat % 128) := by revert v; decide

theorem bit0_eq (v : Byte) : v.getLsbD 0 = decide (v.toNat % 2 = 1) := by revert v; decide

theorem xorFF_toNat (v : Byte) : (v ^^^ 0xFF).toNat = 255 - v.toNat := by revert v; decide

theorem xorFF_toInt (v : Byte) : (v ^^^ 0xFF).toInt = -1 - v.toInt := by revert v; decide

theorem adcResult_toNat (a m : Byte) (c : Bool) : (adcResult a m c).toNat = (a.toNat + m.toNat + c.toNat) % 256 := by
  simp [adcResult, adcSum]

/-- The overflow expression of R436 is the signed overflow of the sum. -/
theorem adc_overflow (a m : Byte) (c : Bool) :
    ((a ^^^ adcResult a m c) &&& (m ^^^ adcResult a m c)).getLsbD 7 =
      decide (a.toInt + m.toInt + c.toNat < -128 ∨ 127 < a.toInt + m.toInt + c.toNat) := by
  rw [BitVec.getLsbD_and, BitVec.getLsbD_xor, BitVec.getLsbD_xor, bit7_eq, bit7_eq, bit7_eq, adcResult_toNat]
  have := a.isLt
  have := m.isLt
  have hc : c.toNat ≤ 1 := by cases c <;> decide
  simp only [BitVec.toInt]
  by_cases h1 : 128 ≤ a.toNat <;> by_cases h2 : 128 ≤ m.toNat <;>
    by_cases h3 : 128 ≤ (a.toNat + m.toNat + c.toNat) % 256 <;> simp [h1, h2, h3] <;> omega

/-- `SBC` adds the complement (R436): the byte is the difference with the borrow. -/
theorem adcResult_xorFF (a m : Byte) (c : Bool) :
    adcResult a (m ^^^ 0xFF) c = BitVec.ofInt 8 ((a.toNat : Int) - m.toNat - (1 - c.toNat)) := by
  apply BitVec.eq_of_toNat_eq
  have := a.isLt
  have := m.isLt
  have hc : c.toNat ≤ 1 := by cases c <;> decide
  simp only [adcResult, adcSum, xorFF_toNat, BitVec.toNat_ofNat, BitVec.toNat_ofInt]
  omega

/-- The carry of `SBC` says that no borrow is needed. -/
theorem adcSum_xorFF (a m : Byte) (c : Bool) :
    decide (0xFF < adcSum a (m ^^^ 0xFF) c) = decide (0 ≤ (a.toNat : Int) - m.toNat - (1 - c.toNat)) := by
  have := m.isLt
  rw [decide_eq_decide, adcSum, xorFF_toNat]
  omega

theorem aslResult_eq (m : Byte) : aslResult m = BitVec.ofNat 8 (2 * m.toNat) := by revert m; decide

theorem lsrResult_eq (m : Byte) : lsrResult m = BitVec.ofNat 8 (m.toNat / 2) := by revert m; decide

theorem rolResult_eq (m : Byte) (c : Bool) : rolResult m c = BitVec.ofNat 8 (2 * m.toNat + c.toNat) := by
  revert m c; decide

theorem rorResult_eq (m : Byte) (c : Bool) : rorResult m c = BitVec.ofNat 8 (m.toNat / 2 + 128 * c.toNat) := by
  revert m c; decide

/-- The byte image as a number (R110). -/
theorem pack_eq (p : Flags) (b : Bool) :
    p.pack b = BitVec.ofNat 8 (128 * p.n.toNat + 64 * p.v.toNat + 32 + 16 * b.toNat + 8 * p.d.toNat + 4 * p.i.toNat +
      2 * p.z.toNat + p.c.toNat) := by
  obtain ⟨n, v, d, i, z, c⟩ := p
  revert n v d i z c b; decide

/-- `unpack` undoes `pack`, whatever the break bit was (R110, R112). -/
theorem unpack_pack (p : Flags) (b : Bool) : Flags.unpack (p.pack b) = p := by
  obtain ⟨n, v, d, i, z, c⟩ := p
  revert n v d i z c b; decide

end Sys2Proof.Machine
end

