-- ==== Sys2Proof/Laws/Ppu.lean ====
section
/-! SUPPORT. What a dot of the picture unit can change, what it keeps, and how far the unit runs. -/

namespace Sys2Proof.Machine

/-- What the work of a dot leaves alone in the picture unit: what only the CPU writes, the memories only the CPU writes,
and the position; and the ranges hold if they held. -/
structure Ppu.Works (p q : Ppu) : Prop where
  ctrl : q.ctrl = p.ctrl
  mask : q.mask = p.mask
  oamAddr : q.oamAddr = p.oamAddr
  t : q.t = p.t
  x : q.x = p.x
  w : q.w = p.w
  readBuffer : q.readBuffer = p.readBuffer
  ioLatch : q.ioLatch = p.ioLatch
  vram : q.vram = p.vram
  palette : q.palette = p.palette
  oam : q.oam = p.oam
  scanline : q.scanline = p.scanline
  dot : q.dot = p.dot
  frameParity : q.frameParity = p.frameParity
  ppuDots : q.ppuDots = p.ppuDots
  ok : p.Ok → q.Ok

theorem Ppu.Works.refl (p : Ppu) : p.Works p := by constructor <;> first | rfl | exact id

theorem Ppu.Works.trans {p q r : Ppu} (h : p.Works q) (k : q.Works r) : p.Works r where
  ctrl := k.ctrl.trans h.ctrl
  mask := k.mask.trans h.mask
  oamAddr := k.oamAddr.trans h.oamAddr
  t := k.t.trans h.t
  x := k.x.trans h.x
  w := k.w.trans h.w
  readBuffer := k.readBuffer.trans h.readBuffer
  ioLatch := k.ioLatch.trans h.ioLatch
  vram := k.vram.trans h.vram
  palette := k.palette.trans h.palette
  oam := k.oam.trans h.oam
  scanline := k.scanline.trans h.scanline
  dot := k.dot.trans h.dot
  frameParity := k.frameParity.trans h.frameParity
  ppuDots := k.ppuDots.trans h.ppuDots
  ok := k.ok ∘ h.ok

/-- A step of the picture unit's work, on the whole state: it changes the unit, the NMI latch, the state of
the Mapper's variant (by its tick, which clears no request) and the fault latch only. -/
def Works (s t : State) : Prop :=
  ∃ f nmi ppu ms,
    t = { s with fault := f, nmiPending := nmi, ppu := ppu, mapper := { s.mapper with variant := ms } } ∧
      s.ppu.Works ppu ∧ (s.cart.fixed = true → f = s.fault ∧ ms = s.mapper.variant) ∧
        (s.mapper.variant.irqPending = true → ms.irqPending = true)

theorem Works.refl (s : State) : Works s s :=
  ⟨s.fault, s.nmiPending, s.ppu, s.mapper.variant, rfl, .refl _, fun _ => ⟨rfl, rfl⟩, id⟩

theorem Works.trans {s t u : State} (h : Works s t) (k : Works t u) : Works s u := by
  obtain ⟨f, nmi, ppu, ms, rfl, hw, hf, hi⟩ := h
  obtain ⟨f', nmi', ppu', ms', rfl, kw, kf, ki⟩ := k
  exact ⟨f', nmi', ppu', ms', rfl, hw.trans kw, fun e => ⟨(kf e).1.trans (hf e).1, (kf e).2.trans (hf e).2⟩,
    ki ∘ hi⟩

/-- Work that only changes the unit. -/
theorem Works.ppu {s : State} {p : Ppu} (h : s.ppu.Works p) : Works s (s.setPpu p) :=
  ⟨s.fault, s.nmiPending, p, s.mapper.variant, rfl, h, fun _ => ⟨rfl, rfl⟩, id⟩

theorem Works.read (a : PpuAddr) (s : State) : Works s (ppuRead a s).2 := by
  obtain ⟨f, h⟩ := ppuRead_cases a s
  rw [h]
  refine ⟨f, s.nmiPending, s.ppu, s.mapper.variant, rfl, .refl _, fun e => ?_, id⟩
  rw [ppuRead_fixed a e] at h
  exact ⟨(congrArg State.fault h).symm, rfl⟩

/-- Work done under a condition. -/
theorem Works.ite {c : Prop} [Decidable c] {s t : State} (h : c → Works s t) : Works s (if c then t else s) := by
  split
  · exact h ‹_›
  · exact .refl s

/-! ## The parts of a dot -/

theorem works_vblankSet (s : State) : Works s (vblankSet s) := by
  unfold vblankSet
  split
  · exact .ppu ⟨rfl, rfl, rfl, rfl, rfl, rfl, rfl, rfl, rfl, rfl, rfl, rfl, rfl, rfl, rfl, fun h => { h with }⟩
  · exact ⟨s.fault, _, _, s.mapper.variant, rfl,
      ⟨rfl, rfl, rfl, rfl, rfl, rfl, rfl, rfl, rfl, rfl, rfl, rfl, rfl, rfl, rfl, fun h => { h with }⟩, fun _ => ⟨rfl, rfl⟩, id⟩

theorem works_flagsClear (p : Ppu) : p.Works p.flagsClear :=
  ⟨rfl, rfl, rfl, rfl, rfl, rfl, rfl, rfl, rfl, rfl, rfl, rfl, rfl, rfl, rfl, fun h => { h with }⟩

theorem works_shiftBg (p : Ppu) : p.Works p.shiftBg :=
  ⟨rfl, rfl, rfl, rfl, rfl, rfl, rfl, rfl, rfl, rfl, rfl, rfl, rfl, rfl, rfl, fun h => { h with }⟩

theorem works_reloadBg (p : Ppu) : p.Works p.reloadBg :=
  ⟨rfl, rfl, rfl, rfl, rfl, rfl, rfl, rfl, rfl, rfl, rfl, rfl, rfl, rfl, rfl, fun h => { h with }⟩

theorem works_copyHoriz (p : Ppu) : p.Works p.copyHoriz :=
  ⟨rfl, rfl, rfl, rfl, rfl, rfl, rfl, rfl, rfl, rfl, rfl, rfl, rfl, rfl, rfl, fun h => { h with }⟩

theorem works_copyVert (p : Ppu) : p.Works p.copyVert :=
  ⟨rfl, rfl, rfl, rfl, rfl, rfl, rfl, rfl, rfl, rfl, rfl, rfl, rfl, rfl, rfl, fun h => { h with }⟩

theorem works_fetchPhase (d : Nat) (s : State) : Works s (fetchPhase d s) := by
  have hp : ∀ p : Ppu, ∀ nt at' lo hi v, p.Works { p with ntByte := nt, atBits := at', ptLo := lo, ptHi := hi, v := v } :=
    fun p _ _ _ _ _ =>
      ⟨rfl, rfl, rfl, rfl, rfl, rfl, rfl, rfl, rfl, rfl, rfl, rfl, rfl, rfl, rfl, fun h => { h with }⟩
  unfold fetchPhase
  split
  · exact (Works.read _ s).trans (.ppu (hp _ _ _ _ _ _))
  · exact (Works.read _ s).trans (.ppu (hp _ _ _ _ _ _))
  · exact (Works.read _ s).trans (.ppu (hp _ _ _ _ _ _))
  · exact (Works.read _ s).trans (.ppu (hp _ _ _ _ _ _))
  · exact .ppu ((works_reloadBg s.ppu).trans (hp _ _ _ _ _ _))
  · exact .refl s

/-- The evaluation loop fills at most eight units and keeps secondary OAM canonical and within 32 bytes. -/
theorem evaluate_ok (oam : Memory) (sl h k : Nat) (e : Evaluation) (hn : e.n ≤ 8)
    (hs : Cells.sized .secOam 32 e.secOam = true) :
    (evaluate oam sl h k e).n ≤ 8 ∧ Cells.sized .secOam 32 (evaluate oam sl h k e).secOam = true := by
  induction k generalizing e with
  | zero => exact ⟨hn, hs⟩
  | succ k ih =>
    simp only [evaluate]
    split
    · split
      · rename_i h8
        refine ih _ (by exact h8) ?_
        unfold copyDescriptor
        exact Cells.write_sized _ (by omega) (Cells.write_sized _ (by omega)
          (Cells.write_sized _ (by omega) (Cells.write_sized _ (by omega) hs)))
      · exact ⟨hn, hs⟩
    · exact ih e hn hs

theorem works_fetchSprite (sl k : Nat) (s : State) : Works s (fetchSprite sl k s) := by
  unfold fetchSprite
  simp only []
  refine (Works.read _ s).trans ((Works.read _ _).trans (.ppu ?_))
  exact ⟨rfl, rfl, rfl, rfl, rfl, rfl, rfl, rfl, rfl, rfl, rfl, rfl, rfl, rfl, rfl,
    fun h => { h with sprites := by simpa using h.sprites }⟩

theorem works_fetchSprites (sl count k : Nat) (s : State) : Works s (fetchSprites sl count k s) := by
  induction k generalizing s with
  | zero => exact .refl s
  | succ k ih => exact (works_fetchSprite _ _ s).trans (ih _)

theorem works_spritesForNextLine (sl : Nat) (s : State) : Works s (spritesForNextLine sl s) := by
  unfold spritesForNextLine
  split
  · exact .ppu ⟨rfl, rfl, rfl, rfl, rfl, rfl, rfl, rfl, rfl, rfl, rfl, rfl, rfl, rfl, rfl,
      fun h => { h with sprCount := Nat.zero_le 8 }⟩
  · have he := evaluate_ok s.ppu.oam sl s.ppu.spriteH 64 { n := 0, secOam := [], zero := false, overflow := false }
      (Nat.zero_le 8) rfl
    refine Works.trans (.ppu ?_) (works_fetchSprites _ _ _ _)
    exact ⟨rfl, rfl, rfl, rfl, rfl, rfl, rfl, rfl, rfl, rfl, rfl, rfl, rfl, rfl, rfl,
      fun h => { h with sprCount := he.1, secOam := he.2 }⟩

theorem works_pixel (o : SpriteOverlapOrder) (sl px : Nat) (p : Ppu) (hsl : sl ≤ 239) (hpx : px < 256) :
    p.Works (p.pixel o sl px) :=
  ⟨rfl, rfl, rfl, rfl, rfl, rfl, rfl, rfl, rfl, rfl, rfl, rfl, rfl, rfl, rfl,
    fun h => { h with framebuffer := Cells.write_sized _ (by omega) h.framebuffer }⟩

theorem works_lineWork (sl d : Nat) (s : State) : Works s (lineWork sl d s) := by
  have h0 : ∀ p : Ppu, p.Works { p with sprCount := 0, sprZeroOnLine := false } := fun p =>
    ⟨rfl, rfl, rfl, rfl, rfl, rfl, rfl, rfl, rfl, rfl, rfl, rfl, rfl, rfl, rfl,
      fun h => { h with sprCount := Nat.zero_le 8 }⟩
  unfold lineWork
  split
  · exact (Works.ite fun _ => (Works.ppu (works_shiftBg _)).trans (works_fetchPhase _ _)).trans
      ((Works.ite fun _ => (Works.ppu (works_copyHoriz _)).trans (works_spritesForNextLine _ _)).trans
        (Works.ite fun _ => .ppu (works_copyVert _)))
  · split
    · exact .ppu (h0 _)
    · exact .refl s

theorem works_mapperTick (s : State) : Works s (mapperTick s) := by
  unfold mapperTick
  split
  · exact .refl s
  · rename_i h
    exact ⟨s.fault, s.nmiPending, s.ppu, _, rfl, .refl _, fun e => absurd (fixedMapping_of_fixed e) h,
      fun e => by simp [scanlineTick, e]⟩

/-- The work of a dot, before the position moves. -/
theorem works_dotWork (sl d : Nat) (s : State) : Works s (dotWork sl d s) := by
  unfold dotWork
  simp only []
  refine (Works.ite fun _ => works_vblankSet s).trans ((Works.ite fun _ => .ppu (works_flagsClear _)).trans
    ((Works.ite fun h => .ppu (works_pixel _ _ _ _ h.1 (by omega))).trans
      ((Works.ite fun _ => works_lineWork _ _ _).trans (Works.ite fun _ => works_mapperTick _))))

/-! ## A whole dot -/

/-- What a dot can change on the whole state: the picture unit, the NMI latch, the Mapper's variant, the fault latch,
and the frame event; it counts itself. -/
theorem dot_cases (s : State) :
    ∃ f nmi ppu ms fc,
      dot s = { s with fault := f, nmiPending := nmi, ppu := ppu, mapper := { s.mapper with variant := ms },
                       frameCompleted := fc } ∧
        ppu.ppuDots = s.ppu.ppuDots + 1 ∧ (s.ppu.Ok → ppu.Ok) ∧
        (s.cart.fixed = true → f = s.fault ∧ ms = s.mapper.variant) ∧
        (s.mapper.variant.irqPending = true → ms.irqPending = true) := by
  obtain ⟨f, nmi, p, ms, h, hw, hf, hi⟩ := works_dotWork s.ppu.scanline s.ppu.dot s
  unfold dot
  rw [h]
  simp only [advanceDot]
  split
  · rename_i hd
    split <;> split <;>
      refine ⟨f, nmi, _, ms, _, rfl, congrArg (· + 1) hw.ppuDots, fun hok => ?_, hf, hi⟩ <;>
      have ho := hw.ok hok
    · exact { ho with scanline := Nat.zero_le 261, dot := Nat.zero_le 340 }
    · refine { ho with scanline := ?_, dot := Nat.zero_le 340 }
      have hn' : ¬p.scanline = 261 := by assumption
      have := ho.scanline
      show p.scanline + 1 ≤ 261
      omega
    · exact { ho with scanline := Nat.zero_le 261, dot := Nat.zero_le 340 }
    · refine { ho with scanline := ?_, dot := Nat.zero_le 340 }
      have hn' : ¬p.scanline = 261 := by assumption
      have := ho.scanline
      show p.scanline + 1 ≤ 261
      omega
  · rename_i hd
    refine ⟨f, nmi, _, ms, s.frameCompleted, rfl, congrArg (· + 1) hw.ppuDots, fun hok => ?_, hf, hi⟩
    have ho := hw.ok hok
    refine { ho with dot := ?_ }
    have := ho.dot
    show p.dot + 1 ≤ 340
    have : ¬p.dot = 340 := fun e => hd (.inl e)
    omega

/-- A dot clears no request of the Mapper (R244). -/
theorem mapperIrq_dot {s : State} (h : mapperIrq s = true) : mapperIrq (dot s) = true := by
  obtain ⟨f, nmi, p, ms, fc, e, _, _, _, hi⟩ := dot_cases s
  simp only [mapperIrq, Bool.and_eq_true] at h ⊢
  rw [e]
  exact ⟨h.1, hi h.2⟩

/-- What `n` dots can change. -/
theorem dots_cases (n : Nat) (s : State) :
    ∃ f nmi ppu ms fc,
      dots n s = { s with fault := f, nmiPending := nmi, ppu := ppu, mapper := { s.mapper with variant := ms },
                          frameCompleted := fc } ∧
        ppu.ppuDots = s.ppu.ppuDots + n ∧ (s.ppu.Ok → ppu.Ok) ∧
        (s.cart.fixed = true → f = s.fault ∧ ms = s.mapper.variant) ∧
        (s.mapper.variant.irqPending = true → ms.irqPending = true) := by
  induction n generalizing s with
  | zero => exact ⟨s.fault, s.nmiPending, s.ppu, s.mapper.variant, s.frameCompleted, rfl, rfl, id, fun _ => ⟨rfl, rfl⟩, id⟩
  | succ n ih =>
    obtain ⟨f, nmi, p, ms, fc, h, hd, ho, hf, hi⟩ := dot_cases s
    simp only [dots]
    rw [h]
    obtain ⟨f', nmi', p', ms', fc', h', hd', ho', hf', hi'⟩ := ih
      { s with fault := f, nmiPending := nmi, ppu := p, mapper := { s.mapper with variant := ms }, frameCompleted := fc }
    exact ⟨f', nmi', p', ms', fc', h', by rw [hd']; show p.ppuDots + n = _; omega, ho' ∘ ho,
      fun e => ⟨(hf' e).1.trans (hf e).1, (hf' e).2.trans (hf e).2⟩, hi' ∘ hi⟩

/-- The catch-up of the picture unit (R620): it ends at three dots for every cycle, and changes no CPU register. -/
theorem ppuCatchUp_cases (s : State) :
    ∃ f nmi ppu ms fc,
      ppuCatchUp s = { s with fault := f, nmiPending := nmi, ppu := ppu, mapper := { s.mapper with variant := ms },
                              frameCompleted := fc } ∧
        ppu.ppuDots = max s.ppu.ppuDots (3 * s.cyc) ∧ (s.ppu.Ok → ppu.Ok) ∧
        (s.cart.fixed = true → f = s.fault ∧ ms = s.mapper.variant) ∧
        (s.mapper.variant.irqPending = true → ms.irqPending = true) := by
  obtain ⟨f, nmi, p, ms, fc, h, hd, ho, hf, hi⟩ := dots_cases (3 * s.cyc - s.ppu.ppuDots) s
  exact ⟨f, nmi, p, ms, fc, h, by rw [hd]; omega, ho, hf, hi⟩

end Sys2Proof.Machine
end

