-- ==== Sys2Proof/Laws/Inv.lean ====
section
/-! SUPPORT. The invariant and the absence of faults are kept by every bus access, by every instruction, by the catch-up
of both units and by the arbiter. -/

namespace Sys2Proof.Machine

/-! ## Ranges of the picture unit under port accesses -/

theorem vramIndex_lt (m : Mirroring) (a : PpuAddr) : vramIndex m a < 4096 := by
  have h1 : a.toNat / 1024 % 4 < 4 := Nat.mod_lt _ (by decide)
  have h2 : a.toNat % 1024 < 1024 := Nat.mod_lt _ (by decide)
  unfold vramIndex
  generalize a.toNat / 1024 % 4 = k at *
  generalize a.toNat % 1024 = o at *
  cases m <;> simp only [physTable] <;> omega

theorem paletteIndex_lt (a : Nat) : paletteIndex a < 32 := by
  simp only [paletteIndex]
  split <;> omega

theorem State.Inv.congr {s t : State} (h : s.Inv) (hr : Cells.sized .ram 2048 t.ram = true)
    (hm : t.mapper.prgRam = s.mapper.prgRam) (hc : Cells.sized .chrRam 8192 t.mapper.chrRam = true)
    (hp : t.ppu.Ok) (ha : t.apu.Ok) (hd : t.ppu.ppuDots = s.ppu.ppuDots) (hy : s.cyc ≤ t.cyc)
    (hu : t.apu.apuCyc = s.apu.apuCyc) : t.Inv where
  ram := hr
  prgRam := by rw [hm]; exact h.prgRam
  chrRam := hc
  ppu := hp
  apu := ha
  dots := by rw [hd]; have := h.dots; omega
  samples := by rw [hu]; have := h.samples; omega

theorem inv_ppuPortWrite (n : Nat) (b : Byte) {s : State} (h : s.Inv) : (ppuPortWrite n b s).Inv := by
  have hp := h.ppu
  have hl : ({ s.ppu with ioLatch := b } : Ppu).Ok := { hp with }
  unfold ppuPortWrite
  simp only []
  split
  · exact { h with ppu := { hl with }, dots := h.dots }
  · exact { h with ppu := { hl with }, dots := h.dots }
  · exact { h with ppu := { hl with }, dots := h.dots }
  · exact { h with
      ppu := { hl with oam := Cells.write_sized _ (BitVec.isLt _) hp.oam }
      dots := h.dots }
  · refine { h with ppu := ?_, dots := ?_ }
    · show (Ppu.writeScroll _ b).Ok
      unfold Ppu.writeScroll
      split <;> exact { hl with }
    · show (Ppu.writeScroll _ b).ppuDots ≤ _
      unfold Ppu.writeScroll
      split <;> exact h.dots
  · refine { h with ppu := ?_, dots := ?_ }
    · show (Ppu.writeAddr _ b).Ok
      unfold Ppu.writeAddr
      split <;> exact { hl with }
    · show (Ppu.writeAddr _ b).ppuDots ≤ _
      unfold Ppu.writeAddr
      split <;> exact h.dots
  · simp only [ppuWrite, chrWrite]
    split
    · split
      · rename_i hb
        split
        · rename_i hr
          have hlt : translateChr (s.setPpu { s.ppu with ioLatch := b }) (s.ppu.v.setWidth 14) < 8192 := by
            have : chrSize (s.setPpu { s.ppu with ioLatch := b }) = 8192 := by simp [chrSize, hr]
            rw [← this]; exact hb
          exact { h with
            chrRam := Cells.write_sized _ hlt h.chrRam
            ppu := { hl with }
            dots := h.dots }
        · exact { h with ppu := { hl with }, dots := h.dots }
      · exact { h with ppu := { hl with }, dots := h.dots }
    · split
      · exact { h with
          ppu := { hl with vram := Cells.write_sized _ (vramIndex_lt _ _) hp.vram }
          dots := h.dots }
      · exact { h with
          ppu := { hl with palette := Cells.write_sized _ (paletteIndex_lt _) hp.palette }
          dots := h.dots }
  · exact { h with ppu := { hl with }, dots := h.dots }

theorem inv_read8 (a : Addr) {s : State} (h : s.Inv) : (read8 a s).2.Inv := by
  obtain ⟨f, db, v, rb, io, vb, w, vs, fi, j0, j1, e⟩ := read8_cases a s
  rw [e]
  exact { h with ppu := { h.ppu with }, apu := { h.apu with }, dots := h.dots, samples := h.samples }

theorem inv_setDb (v : Byte) {s : State} (h : s.Inv) : (s.setDb v).Inv := { h with }

theorem inv_dmaLoop (page : Byte) (k : Nat) {s : State} (h : s.Inv) : (dmaLoop page k s).Inv := by
  induction k generalizing s with
  | zero => exact h
  | succ k ih => exact ih (inv_ppuPortWrite _ _ (inv_read8 _ h))

theorem ram_index_lt {a : Addr} {i : Nat} (h : route a = .ram i) : i < 2048 := by
  simp only [route] at h
  repeat' split at h
  all_goals first
    | (simp only [Device.ram.injEq] at h; rw [← h]; exact Nat.mod_lt _ (by decide))
    | exact Device.noConfusion h

theorem inv_write8 (a : Addr) (v : Byte) {s : State} (h : s.Inv) : (write8 a v s).Inv := by
  unfold write8
  split
  · rename_i i hi
    exact { h with ram := Cells.write_sized _ (ram_index_lt hi) h.ram }
  · exact inv_setDb v (inv_ppuPortWrite _ _ h)
  · exact { h with
      apu := h.apu.writeRegister _ _
      samples := by show (Apu.writeRegister _ _ _).apuCyc ≤ _; rw [writeRegister_apuCyc]; exact h.samples }
  · exact inv_dmaLoop _ _ (inv_setDb v h)
  · exact { h with apu := h.apu.writeEnable _, samples := h.samples }
  · simp only [writeStrobe]
    split <;> exact { h with }
  · exact { h with
      apu := h.apu.writeSequencer _
      samples := by show (Apu.writeSequencer _ _).apuCyc ≤ _; rw [writeSequencer_apuCyc]; exact h.samples }
  · exact { h with }
  · simp only [cartWrite]
    split
    · exact { h with }
    · split
      · split
        · exact { h with }
        · exact { h with prgRam := Cells.write_wf _ h.prgRam }
      · exact { h with }

/-- The invariant is kept by everything an instruction is made of. -/
theorem inv_closed : Closed State.Inv where
  setA _ _ h := { h with }
  setX _ _ h := { h with }
  setY _ _ h := { h with }
  setSp _ _ h := { h with }
  setPc _ _ h := { h with }
  setP _ _ h := { h with }
  charge n s h := { h with
    dots := by have := h.dots; show s.ppu.ppuDots ≤ 3 * (s.cyc + n); omega
    samples := by have := h.samples; show s.apu.apuCyc ≤ s.cyc + n; omega }
  read8 a _ h := inv_read8 a h
  write8 a v _ h := inv_write8 a v h
  latched _ _ h := { h with }

theorem inv_raise (r : Fault) {s : State} (h : s.Inv) : (raise r s).Inv := { h with }

/-- Every instruction keeps the invariant. -/
theorem inv_exec (i : Instr) {s : State} (h : s.Inv) : ∃ t, exec i s = .next t ∧ t.Inv :=
  inv_closed.exec i (fun _ _ r => inv_raise r h) h

/-! ## The other phases -/

theorem inv_clearOutputs {s : State} (h : s.Inv) : (clearOutputs s).Inv := { h with }

theorem inv_ppuCatchUp {s : State} (h : s.Inv) : (ppuCatchUp s).Inv := by
  obtain ⟨f, nmi, p, ms, fc, e, hd, ho, _⟩ := ppuCatchUp_cases s
  rw [e]
  have := h.dots
  exact { h with ppu := ho h.ppu, dots := by show p.ppuDots ≤ 3 * s.cyc; omega }

theorem inv_apuCatchUp {s : State} (h : s.Inv) : (apuCatchUp s).Inv := by
  obtain ⟨f, db, v, rb, io, vb, w, vs, j0, j1, cyc, apu, smp, e, hc, ha, ho, _⟩ := apuCatchUp_cases s
  rw [e]
  have h1 := h.dots
  have h2 := h.samples
  exact { h with
    ppu := { h.ppu with }
    apu := ho h.apu
    dots := by show s.ppu.ppuDots ≤ 3 * cyc; omega
    samples := by show apu.apuCyc ≤ cyc; omega }

theorem inv_arbiter {s : State} (h : s.Inv) : (arbiter s).Inv := by
  have hc : ∀ t : State, t.Inv → (t.setCyc (t.cyc + 7)).Inv := fun t ht => inv_closed.charge 7 t ht
  unfold arbiter
  split
  · exact hc _ (inv_closed.enterInterrupt _ _ _ _ { h with })
  · split
    · exact hc _ (inv_closed.enterInterrupt _ _ _ _ h)
    · exact h

/-! ## No fault with the fixed mapping (R246, R247) -/

/-- The cartridge is one of the fixed mapping, and no fault is latched. -/
def Sound (s : State) : Prop := s.cart.fixed = true ∧ s.fault = none

theorem ppuPortWrite_fixed_fault {s : State} (n : Nat) (b : Byte) (h : s.cart.fixed = true) :
    (ppuPortWrite n b s).fault = s.fault := by
  unfold ppuPortWrite
  simp only []
  split
  any_goals rfl
  exact ppuWrite_fixed_fault _ _ (s := s.setPpu { s.ppu with ioLatch := b }) h

theorem ppuPortWrite_cart (n : Nat) (b : Byte) (s : State) : (ppuPortWrite n b s).cart = s.cart := by
  obtain ⟨_, _, _, _, e, _⟩ := ppuPortWrite_cases n b s
  rw [e]

theorem sound_dmaLoop (page : Byte) (k : Nat) {s : State} (h : Sound s) : Sound (dmaLoop page k s) := by
  induction k generalizing s with
  | zero => exact h
  | succ k ih =>
    refine ih ⟨?_, ?_⟩
    · rw [ppuPortWrite_cart, read8_cart]; exact h.1
    · rw [ppuPortWrite_fixed_fault _ _ (by rw [read8_cart]; exact h.1), read8_fixed_fault _ h.1]; exact h.2

theorem sound_write8 (a : Addr) (v : Byte) {s : State} (h : Sound s) : Sound (write8 a v s) := by
  refine ⟨by rw [write8_cart]; exact h.1, ?_⟩
  by_cases hc : route a = .cartridge
  · rw [write8_cartridge_fixed v s hc h.1]; exact h.2
  · unfold write8
    split
    · exact h.2
    · exact (ppuPortWrite_fixed_fault _ _ h.1).trans h.2
    · exact h.2
    · exact (sound_dmaLoop _ _ (s := s.setDb v) ⟨h.1, h.2⟩).2
    · exact h.2
    · simp only [writeStrobe]; split <;> exact h.2
    · exact h.2
    · exact h.2
    · exact absurd ‹_› hc

/-- With the fixed mapping nothing an instruction is made of raises a fault. -/
theorem sound_closed : Closed Sound where
  setA _ _ h := h
  setX _ _ h := h
  setY _ _ h := h
  setSp _ _ h := h
  setPc _ _ h := h
  setP _ _ h := h
  charge _ _ h := h
  read8 a s h := ⟨by rw [read8_cart]; exact h.1, (read8_fixed_fault a h.1).trans h.2⟩
  write8 a v _ h := sound_write8 a v h
  latched a _ h := ⟨h.1, (read8_fixed_fault a h.1).trans h.2⟩

theorem sound_ppuCatchUp {s : State} (h : Sound s) : Sound (ppuCatchUp s) := by
  obtain ⟨f, nmi, p, ms, fc, e, _, _, hf, _⟩ := ppuCatchUp_cases s
  rw [e]
  exact ⟨h.1, (hf h.1).1.trans h.2⟩

theorem sound_apuCatchUp {s : State} (h : Sound s) : Sound (apuCatchUp s) := by
  obtain ⟨f, db, v, rb, io, vb, w, vs, j0, j1, cyc, apu, smp, e, _, _, _, hf⟩ := apuCatchUp_cases s
  rw [e]
  exact ⟨h.1, (hf h.1).trans h.2⟩

theorem sound_arbiter {s : State} (h : Sound s) : Sound (arbiter s) := by
  unfold arbiter
  split
  · exact sound_closed.enterInterrupt _ _ _ _ (s := s.setNmiPending false) h
  · split
    · exact sound_closed.enterInterrupt _ _ _ _ h
    · exact h

/-! ## Reset -/

/-- The state after reset is the reset sequence of R900 run with the blank cartridge, the default parameters and memories
with nothing listed. -/
theorem reset_eq_powerOn : State.reset = powerOn .blank .default [] [] [] [] := rfl

/-- Every memory of the state after reset is in canonical form. -/
theorem reset_memories_wf :
    Memory.wf .ram State.reset.ram = true ∧ Memory.wf .vram State.reset.ppu.vram = true ∧
      Cells.wf .palette State.reset.ppu.palette = true ∧ Memory.wf .oam State.reset.ppu.oam = true ∧
      Memory.wf .secOam State.reset.ppu.secOam = true ∧ Cells.wf .framebuffer State.reset.ppu.framebuffer = true ∧
      Memory.wf .prg State.reset.cart.prg = true ∧ Memory.wf .chr State.reset.cart.chr = true ∧
      Memory.wf .prgRam State.reset.mapper.prgRam = true ∧ Memory.wf .chrRam State.reset.mapper.chrRam = true :=
  ⟨rfl, rfl, rfl, rfl, rfl, rfl, rfl, rfl, rfl, rfl⟩

end Sys2Proof.Machine
end

