-- ==== Sys2Proof/Laws/PerInstr.lean ====
section
/-! SUPPORT. What holds of each instruction as syntax: decoding its encoding gives it back, whatever bytes follow. One
lemma per constructor. -/

namespace Sys2Proof.Laws.Encoding

/-- A well-formed instruction is what its own encoding decodes to, with the rest of the bytes left over. -/
def Statement (i : Instr) : Prop :=
  i.wellFormed = true → ∀ rest : List Byte, decode (encode i ++ rest) = .ok (i, rest)

theorem undecodable (op : Byte) : Statement (.undecodable op) := by
  intro h rest
  have hm : op ∈ undecodableBytes := by simpa [Instr.wellFormed, Instr.opcodeFits] using h
  have all : ∀ op ∈ undecodableBytes, opcodeFormat op = .one (.undecodable op) := by
    intro op hm
    simp only [undecodableBytes, List.mem_cons, List.not_mem_nil, or_false] at hm
    rcases hm with rfl | rfl | rfl | rfl | rfl | rfl | rfl | rfl | rfl | rfl | rfl | rfl | rfl | rfl | rfl | rfl | rfl |
      rfl | rfl | rfl | rfl | rfl | rfl | rfl | rfl <;> rfl
  simp only [encode, List.cons_append, List.nil_append, decode, all op hm]

theorem brk : Statement .brk := fun _ _ => rfl
theorem oraIzx (b1 : Byte) : Statement (.oraIzx b1) := fun _ _ => rfl
theorem sloIzx (b1 : Byte) : Statement (.sloIzx b1) := fun _ _ => rfl
theorem nopZp04 (b1 : Byte) : Statement (.nopZp04 b1) := fun _ _ => rfl
theorem oraZp (b1 : Byte) : Statement (.oraZp b1) := fun _ _ => rfl
theorem aslZp (b1 : Byte) : Statement (.aslZp b1) := fun _ _ => rfl
theorem sloZp (b1 : Byte) : Statement (.sloZp b1) := fun _ _ => rfl
theorem php : Statement .php := fun _ _ => rfl
theorem oraImm (b1 : Byte) : Statement (.oraImm b1) := fun _ _ => rfl
theorem aslAcc : Statement .aslAcc := fun _ _ => rfl
theorem nopAbs0C (b1 b2 : Byte) : Statement (.nopAbs0C b1 b2) := fun _ _ => rfl
theorem oraAbs (b1 b2 : Byte) : Statement (.oraAbs b1 b2) := fun _ _ => rfl
theorem aslAbs (b1 b2 : Byte) : Statement (.aslAbs b1 b2) := fun _ _ => rfl
theorem sloAbs (b1 b2 : Byte) : Statement (.sloAbs b1 b2) := fun _ _ => rfl
theorem bpl (b1 : Byte) : Statement (.bpl b1) := fun _ _ => rfl
theorem oraIzy (b1 : Byte) : Statement (.oraIzy b1) := fun _ _ => rfl
theorem sloIzy (b1 : Byte) : Statement (.sloIzy b1) := fun _ _ => rfl
theorem nopZpx14 (b1 : Byte) : Statement (.nopZpx14 b1) := fun _ _ => rfl
theorem oraZpx (b1 : Byte) : Statement (.oraZpx b1) := fun _ _ => rfl
theorem aslZpx (b1 : Byte) : Statement (.aslZpx b1) := fun _ _ => rfl
theorem sloZpx (b1 : Byte) : Statement (.sloZpx b1) := fun _ _ => rfl
theorem clc : Statement .clc := fun _ _ => rfl
theorem oraAby (b1 b2 : Byte) : Statement (.oraAby b1 b2) := fun _ _ => rfl
theorem nop1A : Statement .nop1A := fun _ _ => rfl
theorem sloAby (b1 b2 : Byte) : Statement (.sloAby b1 b2) := fun _ _ => rfl
theorem nopAbx1C (b1 b2 : Byte) : Statement (.nopAbx1C b1 b2) := fun _ _ => rfl
theorem oraAbx (b1 b2 : Byte) : Statement (.oraAbx b1 b2) := fun _ _ => rfl
theorem aslAbx (b1 b2 : Byte) : Statement (.aslAbx b1 b2) := fun _ _ => rfl
theorem sloAbx (b1 b2 : Byte) : Statement (.sloAbx b1 b2) := fun _ _ => rfl
theorem jsr (b1 b2 : Byte) : Statement (.jsr b1 b2) := fun _ _ => rfl
theorem andIzx (b1 : Byte) : Statement (.andIzx b1) := fun _ _ => rfl
theorem rlaIzx (b1 : Byte) : Statement (.rlaIzx b1) := fun _ _ => rfl
theorem bitZp (b1 : Byte) : Statement (.bitZp b1) := fun _ _ => rfl
theorem andZp (b1 : Byte) : Statement (.andZp b1) := fun _ _ => rfl
theorem rolZp (b1 : Byte) : Statement (.rolZp b1) := fun _ _ => rfl
theorem rlaZp (b1 : Byte) : Statement (.rlaZp b1) := fun _ _ => rfl
theorem plp : Statement .plp := fun _ _ => rfl
theorem andImm (b1 : Byte) : Statement (.andImm b1) := fun _ _ => rfl
theorem rolAcc : Statement .rolAcc := fun _ _ => rfl
theorem bitAbs (b1 b2 : Byte) : Statement (.bitAbs b1 b2) := fun _ _ => rfl
theorem andAbs (b1 b2 : Byte) : Statement (.andAbs b1 b2) := fun _ _ => rfl
theorem rolAbs (b1 b2 : Byte) : Statement (.rolAbs b1 b2) := fun _ _ => rfl
theorem rlaAbs (b1 b2 : Byte) : Statement (.rlaAbs b1 b2) := fun _ _ => rfl
theorem bmi (b1 : Byte) : Statement (.bmi b1) := fun _ _ => rfl
theorem andIzy (b1 : Byte) : Statement (.andIzy b1) := fun _ _ => rfl
theorem rlaIzy (b1 : Byte) : Statement (.rlaIzy b1) := fun _ _ => rfl
theorem nopZpx34 (b1 : Byte) : Statement (.nopZpx34 b1) := fun _ _ => rfl
theorem andZpx (b1 : Byte) : Statement (.andZpx b1) := fun _ _ => rfl
theorem rolZpx (b1 : Byte) : Statement (.rolZpx b1) := fun _ _ => rfl
theorem rlaZpx (b1 : Byte) : Statement (.rlaZpx b1) := fun _ _ => rfl
theorem sec : Statement .sec := fun _ _ => rfl
theorem andAby (b1 b2 : Byte) : Statement (.andAby b1 b2) := fun _ _ => rfl
theorem nop3A : Statement .nop3A := fun _ _ => rfl
theorem rlaAby (b1 b2 : Byte) : Statement (.rlaAby b1 b2) := fun _ _ => rfl
theorem nopAbx3C (b1 b2 : Byte) : Statement (.nopAbx3C b1 b2) := fun _ _ => rfl
theorem andAbx (b1 b2 : Byte) : Statement (.andAbx b1 b2) := fun _ _ => rfl
theorem rolAbx (b1 b2 : Byte) : Statement (.rolAbx b1 b2) := fun _ _ => rfl
theorem rlaAbx (b1 b2 : Byte) : Statement (.rlaAbx b1 b2) := fun _ _ => rfl
theorem rti : Statement .rti := fun _ _ => rfl
theorem eorIzx (b1 : Byte) : Statement (.eorIzx b1) := fun _ _ => rfl
theorem sreIzx (b1 : Byte) : Statement (.sreIzx b1) := fun _ _ => rfl
theorem nopZp44 (b1 : Byte) : Statement (.nopZp44 b1) := fun _ _ => rfl
theorem eorZp (b1 : Byte) : Statement (.eorZp b1) := fun _ _ => rfl
theorem lsrZp (b1 : Byte) : Statement (.lsrZp b1) := fun _ _ => rfl
theorem sreZp (b1 : Byte) : Statement (.sreZp b1) := fun _ _ => rfl
theorem pha : Statement .pha := fun _ _ => rfl
theorem eorImm (b1 : Byte) : Statement (.eorImm b1) := fun _ _ => rfl
theorem lsrAcc : Statement .lsrAcc := fun _ _ => rfl
theorem jmpAbs (b1 b2 : Byte) : Statement (.jmpAbs b1 b2) := fun _ _ => rfl
theorem eorAbs (b1 b2 : Byte) : Statement (.eorAbs b1 b2) := fun _ _ => rfl
theorem lsrAbs (b1 b2 : Byte) : Statement (.lsrAbs b1 b2) := fun _ _ => rfl
theorem sreAbs (b1 b2 : Byte) : Statement (.sreAbs b1 b2) := fun _ _ => rfl
theorem bvc (b1 : Byte) : Statement (.bvc b1) := fun _ _ => rfl
theorem eorIzy (b1 : Byte) : Statement (.eorIzy b1) := fun _ _ => rfl
theorem sreIzy (b1 : Byte) : Statement (.sreIzy b1) := fun _ _ => rfl
theorem nopZpx54 (b1 : Byte) : Statement (.nopZpx54 b1) := fun _ _ => rfl
theorem eorZpx (b1 : Byte) : Statement (.eorZpx b1) := fun _ _ => rfl
theorem lsrZpx (b1 : Byte) : Statement (.lsrZpx b1) := fun _ _ => rfl
theorem sreZpx (b1 : Byte) : Statement (.sreZpx b1) := fun _ _ => rfl
theorem cli : Statement .cli := fun _ _ => rfl
theorem eorAby (b1 b2 : Byte) : Statement (.eorAby b1 b2) := fun _ _ => rfl
theorem nop5A : Statement .nop5A := fun _ _ => rfl
theorem sreAby (b1 b2 : Byte) : Statement (.sreAby b1 b2) := fun _ _ => rfl
theorem nopAbx5C (b1 b2 : Byte) : Statement (.nopAbx5C b1 b2) := fun _ _ => rfl
theorem eorAbx (b1 b2 : Byte) : Statement (.eorAbx b1 b2) := fun _ _ => rfl
theorem lsrAbx (b1 b2 : Byte) : Statement (.lsrAbx b1 b2) := fun _ _ => rfl
theorem sreAbx (b1 b2 : Byte) : Statement (.sreAbx b1 b2) := fun _ _ => rfl
theorem rts : Statement .rts := fun _ _ => rfl
theorem adcIzx (b1 : Byte) : Statement (.adcIzx b1) := fun _ _ => rfl
theorem rraIzx (b1 : Byte) : Statement (.rraIzx b1) := fun _ _ => rfl
theorem nopZp64 (b1 : Byte) : Statement (.nopZp64 b1) := fun _ _ => rfl
theorem adcZp (b1 : Byte) : Statement (.adcZp b1) := fun _ _ => rfl
theorem rorZp (b1 : Byte) : Statement (.rorZp b1) := fun _ _ => rfl
theorem rraZp (b1 : Byte) : Statement (.rraZp b1) := fun _ _ => rfl
theorem pla : Statement .pla := fun _ _ => rfl
theorem adcImm (b1 : Byte) : Statement (.adcImm b1) := fun _ _ => rfl
theorem rorAcc : Statement .rorAcc := fun _ _ => rfl
theorem jmpInd (b1 b2 : Byte) : Statement (.jmpInd b1 b2) := fun _ _ => rfl
theorem adcAbs (b1 b2 : Byte) : Statement (.adcAbs b1 b2) := fun _ _ => rfl
theorem rorAbs (b1 b2 : Byte) : Statement (.rorAbs b1 b2) := fun _ _ => rfl
theorem rraAbs (b1 b2 : Byte) : Statement (.rraAbs b1 b2) := fun _ _ => rfl
theorem bvs (b1 : Byte) : Statement (.bvs b1) := fun _ _ => rfl
theorem adcIzy (b1 : Byte) : Statement (.adcIzy b1) := fun _ _ => rfl
theorem rraIzy (b1 : Byte) : Statement (.rraIzy b1) := fun _ _ => rfl
theorem nopZpx74 (b1 : Byte) : Statement (.nopZpx74 b1) := fun _ _ => rfl
theorem adcZpx (b1 : Byte) : Statement (.adcZpx b1) := fun _ _ => rfl
theorem rorZpx (b1 : Byte) : Statement (.rorZpx b1) := fun _ _ => rfl
theorem rraZpx (b1 : Byte) : Statement (.rraZpx b1) := fun _ _ => rfl
theorem sei : Statement .sei := fun _ _ => rfl
theorem adcAby (b1 b2 : Byte) : Statement (.adcAby b1 b2) := fun _ _ => rfl
theorem nop7A : Statement .nop7A := fun _ _ => rfl
theorem rraAby (b1 b2 : Byte) : Statement (.rraAby b1 b2) := fun _ _ => rfl
theorem nopAbx7C (b1 b2 : Byte) : Statement (.nopAbx7C b1 b2) := fun _ _ => rfl
theorem adcAbx (b1 b2 : Byte) : Statement (.adcAbx b1 b2) := fun _ _ => rfl
theorem rorAbx (b1 b2 : Byte) : Statement (.rorAbx b1 b2) := fun _ _ => rfl
theorem rraAbx (b1 b2 : Byte) : Statement (.rraAbx b1 b2) := fun _ _ => rfl
theorem nopImm80 (b1 : Byte) : Statement (.nopImm80 b1) := fun _ _ => rfl
theorem staIzx (b1 : Byte) : Statement (.staIzx b1) := fun _ _ => rfl
theorem nopImm82 (b1 : Byte) : Statement (.nopImm82 b1) := fun _ _ => rfl
theorem saxIzx (b1 : Byte) : Statement (.saxIzx b1) := fun _ _ => rfl
theorem styZp (b1 : Byte) : Statement (.styZp b1) := fun _ _ => rfl
theorem staZp (b1 : Byte) : Statement (.staZp b1) := fun _ _ => rfl
theorem stxZp (b1 : Byte) : Statement (.stxZp b1) := fun _ _ => rfl
theorem saxZp (b1 : Byte) : Statement (.saxZp b1) := fun _ _ => rfl
theorem dey : Statement .dey := fun _ _ => rfl
theorem nopImm89 (b1 : Byte) : Statement (.nopImm89 b1) := fun _ _ => rfl
theorem txa : Statement .txa := fun _ _ => rfl
theorem styAbs (b1 b2 : Byte) : Statement (.styAbs b1 b2) := fun _ _ => rfl
theorem staAbs (b1 b2 : Byte) : Statement (.staAbs b1 b2) := fun _ _ => rfl
theorem stxAbs (b1 b2 : Byte) : Statement (.stxAbs b1 b2) := fun _ _ => rfl
theorem saxAbs (b1 b2 : Byte) : Statement (.saxAbs b1 b2) := fun _ _ => rfl
theorem bcc (b1 : Byte) : Statement (.bcc b1) := fun _ _ => rfl
theorem staIzy (b1 : Byte) : Statement (.staIzy b1) := fun _ _ => rfl
theorem styZpx (b1 : Byte) : Statement (.styZpx b1) := fun _ _ => rfl
theorem staZpx (b1 : Byte) : Statement (.staZpx b1) := fun _ _ => rfl
theorem stxZpy (b1 : Byte) : Statement (.stxZpy b1) := fun _ _ => rfl
theorem saxZpy (b1 : Byte) : Statement (.saxZpy b1) := fun _ _ => rfl
theorem tya : Statement .tya := fun _ _ => rfl
theorem staAby (b1 b2 : Byte) : Statement (.staAby b1 b2) := fun _ _ => rfl
theorem txs : Statement .txs := fun _ _ => rfl
theorem staAbx (b1 b2 : Byte) : Statement (.staAbx b1 b2) := fun _ _ => rfl
theorem ldyImm (b1 : Byte) : Statement (.ldyImm b1) := fun _ _ => rfl
theorem ldaIzx (b1 : Byte) : Statement (.ldaIzx b1) := fun _ _ => rfl
theorem ldxImm (b1 : Byte) : Statement (.ldxImm b1) := fun _ _ => rfl
theorem laxIzx (b1 : Byte) : Statement (.laxIzx b1) := fun _ _ => rfl
theorem ldyZp (b1 : Byte) : Statement (.ldyZp b1) := fun _ _ => rfl
theorem ldaZp (b1 : Byte) : Statement (.ldaZp b1) := fun _ _ => rfl
theorem ldxZp (b1 : Byte) : Statement (.ldxZp b1) := fun _ _ => rfl
theorem laxZp (b1 : Byte) : Statement (.laxZp b1) := fun _ _ => rfl
theorem tay : Statement .tay := fun _ _ => rfl
theorem ldaImm (b1 : Byte) : Statement (.ldaImm b1) := fun _ _ => rfl
theorem tax : Statement .tax := fun _ _ => rfl
theorem ldyAbs (b1 b2 : Byte) : Statement (.ldyAbs b1 b2) := fun _ _ => rfl
theorem ldaAbs (b1 b2 : Byte) : Statement (.ldaAbs b1 b2) := fun _ _ => rfl
theorem ldxAbs (b1 b2 : Byte) : Statement (.ldxAbs b1 b2) := fun _ _ => rfl
theorem laxAbs (b1 b2 : Byte) : Statement (.laxAbs b1 b2) := fun _ _ => rfl
theorem bcs (b1 : Byte) : Statement (.bcs b1) := fun _ _ => rfl
theorem ldaIzy (b1 : Byte) : Statement (.ldaIzy b1) := fun _ _ => rfl
theorem laxIzy (b1 : Byte) : Statement (.laxIzy b1) := fun _ _ => rfl
theorem ldyZpx (b1 : Byte) : Statement (.ldyZpx b1) := fun _ _ => rfl
theorem ldaZpx (b1 : Byte) : Statement (.ldaZpx b1) := fun _ _ => rfl
theorem ldxZpy (b1 : Byte) : Statement (.ldxZpy b1) := fun _ _ => rfl
theorem laxZpy (b1 : Byte) : Statement (.laxZpy b1) := fun _ _ => rfl
theorem clv : Statement .clv := fun _ _ => rfl
theorem ldaAby (b1 b2 : Byte) : Statement (.ldaAby b1 b2) := fun _ _ => rfl
theorem tsx : Statement .tsx := fun _ _ => rfl
theorem ldyAbx (b1 b2 : Byte) : Statement (.ldyAbx b1 b2) := fun _ _ => rfl
theorem ldaAbx (b1 b2 : Byte) : Statement (.ldaAbx b1 b2) := fun _ _ => rfl
theorem ldxAby (b1 b2 : Byte) : Statement (.ldxAby b1 b2) := fun _ _ => rfl
theorem laxAby (b1 b2 : Byte) : Statement (.laxAby b1 b2) := fun _ _ => rfl
theorem cpyImm (b1 : Byte) : Statement (.cpyImm b1) := fun _ _ => rfl
theorem cmpIzx (b1 : Byte) : Statement (.cmpIzx b1) := fun _ _ => rfl
theorem nopImmC2 (b1 : Byte) : Statement (.nopImmC2 b1) := fun _ _ => rfl
theorem dcpIzx (b1 : Byte) : Statement (.dcpIzx b1) := fun _ _ => rfl
theorem cpyZp (b1 : Byte) : Statement (.cpyZp b1) := fun _ _ => rfl
theorem cmpZp (b1 : Byte) : Statement (.cmpZp b1) := fun _ _ => rfl
theorem decZp (b1 : Byte) : Statement (.decZp b1) := fun _ _ => rfl
theorem dcpZp (b1 : Byte) : Statement (.dcpZp b1) := fun _ _ => rfl
theorem iny : Statement .iny := fun _ _ => rfl
theorem cmpImm (b1 : Byte) : Statement (.cmpImm b1) := fun _ _ => rfl
theorem dex : Statement .dex := fun _ _ => rfl
theorem cpyAbs (b1 b2 : Byte) : Statement (.cpyAbs b1 b2) := fun _ _ => rfl
theorem cmpAbs (b1 b2 : Byte) : Statement (.cmpAbs b1 b2) := fun _ _ => rfl
theorem decAbs (b1 b2 : Byte) : Statement (.decAbs b1 b2) := fun _ _ => rfl
theorem dcpAbs (b1 b2 : Byte) : Statement (.dcpAbs b1 b2) := fun _ _ => rfl
theorem bne (b1 : Byte) : Statement (.bne b1) := fun _ _ => rfl
theorem cmpIzy (b1 : Byte) : Statement (.cmpIzy b1) := fun _ _ => rfl
theorem dcpIzy (b1 : Byte) : Statement (.dcpIzy b1) := fun _ _ => rfl
theorem nopZpxD4 (b1 : Byte) : Statement (.nopZpxD4 b1) := fun _ _ => rfl
theorem cmpZpx (b1 : Byte) : Statement (.cmpZpx b1) := fun _ _ => rfl
theorem decZpx (b1 : Byte) : Statement (.decZpx b1) := fun _ _ => rfl
theorem dcpZpx (b1 : Byte) : Statement (.dcpZpx b1) := fun _ _ => rfl
theorem cld : Statement .cld := fun _ _ => rfl
theorem cmpAby (b1 b2 : Byte) : Statement (.cmpAby b1 b2) := fun _ _ => rfl
theorem nopDA : Statement .nopDA := fun _ _ => rfl
theorem dcpAby (b1 b2 : Byte) : Statement (.dcpAby b1 b2) := fun _ _ => rfl
theorem nopAbxDC (b1 b2 : Byte) : Statement (.nopAbxDC b1 b2) := fun _ _ => rfl
theorem cmpAbx (b1 b2 : Byte) : Statement (.cmpAbx b1 b2) := fun _ _ => rfl
theorem decAbx (b1 b2 : Byte) : Statement (.decAbx b1 b2) := fun _ _ => rfl
theorem dcpAbx (b1 b2 : Byte) : Statement (.dcpAbx b1 b2) := fun _ _ => rfl
theorem cpxImm (b1 : Byte) : Statement (.cpxImm b1) := fun _ _ => rfl
theorem sbcIzx (b1 : Byte) : Statement (.sbcIzx b1) := fun _ _ => rfl
theorem nopImmE2 (b1 : Byte) : Statement (.nopImmE2 b1) := fun _ _ => rfl
theorem iscIzx (b1 : Byte) : Statement (.iscIzx b1) := fun _ _ => rfl
theorem cpxZp (b1 : Byte) : Statement (.cpxZp b1) := fun _ _ => rfl
theorem sbcZp (b1 : Byte) : Statement (.sbcZp b1) := fun _ _ => rfl
theorem incZp (b1 : Byte) : Statement (.incZp b1) := fun _ _ => rfl
theorem iscZp (b1 : Byte) : Statement (.iscZp b1) := fun _ _ => rfl
theorem inx : Statement .inx := fun _ _ => rfl
theorem sbcImm (b1 : Byte) : Statement (.sbcImm b1) := fun _ _ => rfl
theorem nop : Statement .nop := fun _ _ => rfl
theorem sbcImmEB (b1 : Byte) : Statement (.sbcImmEB b1) := fun _ _ => rfl
theorem cpxAbs (b1 b2 : Byte) : Statement (.cpxAbs b1 b2) := fun _ _ => rfl
theorem sbcAbs (b1 b2 : Byte) : Statement (.sbcAbs b1 b2) := fun _ _ => rfl
theorem incAbs (b1 b2 : Byte) : Statement (.incAbs b1 b2) := fun _ _ => rfl
theorem iscAbs (b1 b2 : Byte) : Statement (.iscAbs b1 b2) := fun _ _ => rfl
theorem beq (b1 : Byte) : Statement (.beq b1) := fun _ _ => rfl
theorem sbcIzy (b1 : Byte) : Statement (.sbcIzy b1) := fun _ _ => rfl
theorem iscIzy (b1 : Byte) : Statement (.iscIzy b1) := fun _ _ => rfl
theorem nopZpxF4 (b1 : Byte) : Statement (.nopZpxF4 b1) := fun _ _ => rfl
theorem sbcZpx (b1 : Byte) : Statement (.sbcZpx b1) := fun _ _ => rfl
theorem incZpx (b1 : Byte) : Statement (.incZpx b1) := fun _ _ => rfl
theorem iscZpx (b1 : Byte) : Statement (.iscZpx b1) := fun _ _ => rfl
theorem sed : Statement .sed := fun _ _ => rfl
theorem sbcAby (b1 b2 : Byte) : Statement (.sbcAby b1 b2) := fun _ _ => rfl
theorem nopFA : Statement .nopFA := fun _ _ => rfl
theorem iscAby (b1 b2 : Byte) : Statement (.iscAby b1 b2) := fun _ _ => rfl
theorem nopAbxFC (b1 b2 : Byte) : Statement (.nopAbxFC b1 b2) := fun _ _ => rfl
theorem sbcAbx (b1 b2 : Byte) : Statement (.sbcAbx b1 b2) := fun _ _ => rfl
theorem incAbx (b1 b2 : Byte) : Statement (.incAbx b1 b2) := fun _ _ => rfl
theorem iscAbx (b1 b2 : Byte) : Statement (.iscAbx b1 b2) := fun _ _ => rfl

end Sys2Proof.Laws.Encoding
end

