-- ==== Sys2Proof/Laws/Stack.lean ====
section
/-! SUPPORT. The stack and the pointers lie in work RAM (R105, R203): pushes, pulls, taking an interrupt, returning from one
and the resolution of an address as explicit changes of the state. -/

namespace Sys2Proof.Machine

theorem word_toNat (h l : Byte) : (word h l).toNat = 256 * h.toNat + l.toNat := by
  simp only [word, BitVec.toNat_append, Nat.shiftLeft_eq]
  have := l.isLt
  rw [← Nat.shiftLeft_eq, ← Nat.shiftLeft_add_eq_or_of_lt this, Nat.shiftLeft_eq]
  omega

theorem zext16_toNat (b : Byte) : (zext16 b).toNat = b.toNat := by
  have := b.isLt
  simp only [zext16, BitVec.toNat_setWidth]
  omega

theorem word_eq (h l : Byte) : word h l = BitVec.ofNat 16 (256 * h.toNat + l.toNat) := by
  apply BitVec.eq_of_toNat_eq
  have := h.isLt
  have := l.isLt
  rw [word_toNat, BitVec.toNat_ofNat]
  omega

/-- A stack address is a work RAM cell of page 1. -/
theorem route_stackAddr (sp : Byte) : route (stackAddr sp) = .ram (256 + sp.toNat) := by
  have := sp.isLt
  have h : (stackAddr sp).toNat = 256 + sp.toNat := by
    rw [stackAddr, word_toNat]; rfl
  rw [route_ram (by omega), h]
  congr 1
  omega

/-- An address of page zero is a work RAM cell. -/
theorem route_zext16 (b : Byte) : route (zext16 b) = .ram b.toNat := by
  have := b.isLt
  have h := zext16_toNat b
  rw [route_ram (by omega), h]
  congr 1
  omega

/-- A push is one RAM write, `db` and the stack pointer (R17, R106). -/
theorem push8_eq (v : Byte) (s : State) :
    push8 v s = { s with sp := s.sp - 1, ram := s.ram.write .ram (pushAddr s).toNat v, db := v } := by
  unfold push8 pushAddr
  have h : ∀ sp, (stackAddr sp).toNat = 256 + sp.toNat := fun sp => by rw [stackAddr, word_toNat]; rfl
  split <;> (rw [write8_of_ram _ _ (route_stackAddr _), h]; rfl)

/-- A pull is one RAM read, `db` and the stack pointer (R17, R106). -/
theorem pull8_eq (s : State) :
    pull8 s = (s.ram.read .ram (pullAddr s).toNat,
      { s with sp := s.sp + 1, db := s.ram.read .ram (pullAddr s).toNat }) := by
  unfold pull8 pullAddr
  have h : ∀ sp, (stackAddr sp).toNat = 256 + sp.toNat := fun sp => by rw [stackAddr, word_toNat]; rfl
  split <;> (rw [read8_of_ram _ (route_stackAddr _), h]; rfl)

theorem pushAddr_toNat (s : State) : ∃ k : Byte, (pushAddr s).toNat = 256 + k.toNat := by
  unfold pushAddr
  split <;> exact ⟨_, by rw [stackAddr, word_toNat]; rfl⟩

theorem lo_word (h l : Byte) : lo (word h l) = l := by
  apply BitVec.eq_of_toNat_eq
  have := l.isLt
  have := h.isLt
  simp only [lo, BitVec.toNat_setWidth, word_toNat]
  omega

theorem hi_word (h l : Byte) : hi (word h l) = h := by
  apply BitVec.eq_of_toNat_eq
  have := l.isLt
  have := h.isLt
  simp only [hi, BitVec.toNat_setWidth, BitVec.toNat_ushiftRight, word_toNat, Nat.shiftRight_eq_div_pow]
  omega

theorem word_hi_lo (a : Addr) : word (hi a) (lo a) = a := by
  apply BitVec.eq_of_toNat_eq
  have := a.isLt
  simp only [word_toNat, hi, lo, BitVec.toNat_setWidth, BitVec.toNat_ushiftRight, Nat.shiftRight_eq_div_pow]
  omega

theorem zext16_eq (b : Byte) : zext16 b = word 0 b := by
  apply BitVec.eq_of_toNat_eq
  rw [zext16_toNat, word_toNat]
  simp

/-- A pointer in page zero: two RAM reads, which leave the high byte in `db` (R309, R310). -/
theorem read16SamePage_zext16 (b : Byte) (s : State) :
    read16SamePage (zext16 b) s =
      (word (s.ram.read .ram (b + 1).toNat) (s.ram.read .ram b.toNat), s.setDb (s.ram.read .ram (b + 1).toNat)) := by
  unfold read16SamePage
  rw [zext16_eq, hi_word, lo_word, ← zext16_eq, ← zext16_eq]
  simp only [read8_of_ram _ (route_zext16 _)]
  rfl

/-- Resolving an address changes `db` at most (R315). -/
theorem resolve_st (m : Mode) (s : State) : ∃ d, (m.resolve s).st = s.setDb d := by
  cases m <;> simp only [Mode.resolve, indexed, read16SamePage_zext16]
  all_goals exact ⟨_, rfl⟩

/-! ## Several pushes and pulls -/

/-- The low byte of the address the next push writes (R106). -/
def pushTop (s : State) : Byte :=
  match s.params.stackOrder with
  | .docPredecrement => s.sp - 1
  | .mosPostdecrement => s.sp

/-- The low byte of the address the next pull reads (R106). -/
def pullTop (s : State) : Byte :=
  match s.params.stackOrder with
  | .docPredecrement => s.sp
  | .mosPostdecrement => s.sp + 1

/-- The RAM cell of page 1 with low byte `c`. -/
def pageOne (c : Byte) : Nat := 256 + c.toNat

/-- RAM after bytes pushed, first to last, from the cell with low byte `c` down. -/
def pushedRam (m : Memory) (c : Byte) : List Byte → Memory
  | [] => m
  | b :: bs => pushedRam (m.write .ram (pageOne c) b) (c - 1) bs

theorem stackAddr_toNat (sp : Byte) : (stackAddr sp).toNat = pageOne sp := by
  rw [stackAddr, word_toNat]; rfl

theorem pushAddr_pageOne (s : State) : (pushAddr s).toNat = pageOne (pushTop s) := by
  unfold pushAddr pushTop
  cases s.params.stackOrder <;> exact stackAddr_toNat _

theorem pullAddr_pageOne (s : State) : (pullAddr s).toNat = pageOne (pullTop s) := by
  unfold pullAddr pullTop
  cases s.params.stackOrder <;> exact stackAddr_toNat _

theorem pushTop_sub {s t : State} (hp : t.params = s.params) (k : Byte) (h : t.sp = s.sp - k) :
    pushTop t = pushTop s - k := by
  unfold pushTop
  rw [hp, h]
  cases s.params.stackOrder
  · show s.sp - k - 1 = s.sp - 1 - k
    apply BitVec.eq_of_toNat_eq; simp only [BitVec.toNat_sub]; omega
  · rfl

theorem pullTop_add {s t : State} (hp : t.params = s.params) (k : Byte) (h : t.sp = s.sp + k) :
    pullTop t = pullTop s + k := by
  unfold pullTop
  rw [hp, h]
  cases s.params.stackOrder
  · rfl
  · show s.sp + k + 1 = s.sp + 1 + k
    apply BitVec.eq_of_toNat_eq; simp only [BitVec.toNat_add]; omega

theorem sub_ofNat_add (b : Byte) (j k : Nat) : b - BitVec.ofNat 8 j - BitVec.ofNat 8 k = b - BitVec.ofNat 8 (j + k) := by
  apply BitVec.eq_of_toNat_eq
  simp only [BitVec.toNat_sub, BitVec.toNat_ofNat]
  omega

theorem add_ofNat_add (b : Byte) (j k : Nat) : b + BitVec.ofNat 8 j + BitVec.ofNat 8 k = b + BitVec.ofNat 8 (j + k) := by
  apply BitVec.eq_of_toNat_eq
  simp only [BitVec.toNat_add, BitVec.toNat_ofNat]
  omega

theorem push8_pushTop (v : Byte) (s : State) :
    push8 v s = { s with sp := s.sp - 1, ram := s.ram.write .ram (pageOne (pushTop s)) v, db := v } := by
  rw [push8_eq, pushAddr_pageOne]

/-- Two pushes. -/
theorem push8_push8 (u v : Byte) (s : State) :
    push8 v (push8 u s) = { s with sp := s.sp - 2, ram := pushedRam s.ram (pushTop s) [u, v], db := v } := by
  have h := push8_pushTop u s
  have h1 : pushTop (push8 u s) = pushTop s - 1 := pushTop_sub (by rw [h]) 1 (by rw [h])
  have h2 : s.sp - 1 - 1 = s.sp - 2 := sub_ofNat_add s.sp 1 1
  rw [push8_pushTop v, h1, h]
  simp only [h2, pushedRam]

/-- Three pushes. -/
theorem push8_push8_push8 (u v w : Byte) (s : State) :
    push8 w (push8 v (push8 u s)) = { s with sp := s.sp - 3, ram := pushedRam s.ram (pushTop s) [u, v, w], db := w } := by
  have h := push8_push8 u v s
  have h1 : pushTop (push8 v (push8 u s)) = pushTop s - 2 := pushTop_sub (by rw [h]) 2 (by rw [h])
  have h2 : pushTop s - 1 - 1 = pushTop s - 2 := sub_ofNat_add _ 1 1
  have h3 : s.sp - 2 - 1 = s.sp - 3 := sub_ofNat_add s.sp 2 1
  rw [push8_pushTop w, h1, h]
  simp only [h3, pushedRam, h2]

/-- A word pushed: high byte first (R17). -/
theorem push16_eq (a : Addr) (s : State) :
    push16 a s = { s with sp := s.sp - 2, ram := pushedRam s.ram (pushTop s) [hi a, lo a], db := lo a } :=
  push8_push8 _ _ _

/-- The byte a pull reads after `k` other pulls. -/
def pulledByte (s : State) (k : Nat) : Byte := s.ram.read .ram (pageOne (pullTop s + BitVec.ofNat 8 k))

theorem pulledByte_after {s t : State} (hp : t.params = s.params) (hr : t.ram = s.ram) (j : Nat)
    (h : t.sp = s.sp + BitVec.ofNat 8 j) (k : Nat) : pulledByte t k = pulledByte s (j + k) := by
  unfold pulledByte
  rw [hr, pullTop_add hp _ h, add_ofNat_add]

theorem pull8_pulledByte (s : State) :
    pull8 s = (pulledByte s 0, { s with sp := s.sp + 1, db := pulledByte s 0 }) := by
  have h : pullTop s + BitVec.ofNat 8 0 = pullTop s := BitVec.add_zero _
  unfold pulledByte
  rw [h, ← pullAddr_pageOne]
  exact pull8_eq s

/-- A word pulled: low byte first (R17). -/
theorem pull16_eq (s : State) :
    pull16 s = (word (pulledByte s 1) (pulledByte s 0), { s with sp := s.sp + 2, db := pulledByte s 1 }) := by
  have h2 : s.sp + 1 + 1 = s.sp + 2 := add_ofNat_add s.sp 1 1
  have h : pulledByte { s with sp := s.sp + 1, db := pulledByte s 0 } 0 = pulledByte s 1 := by
    refine pulledByte_after (s := s) ?_ ?_ 1 ?_ 0 <;> rfl
  simp only [pull16, pull8_pulledByte, h, h2]

/-! ## Interrupts -/

/-- Taking an interrupt: three bytes pushed, I set where asked, PC from the vector by two bus reads (R814). -/
theorem enterInterrupt_eq (ret : Addr) (brk setI : Bool) (vec : Addr) (s : State) :
    enterInterrupt ret brk setI vec s =
      let u : State :=
        { s with
          sp := s.sp - 3
          p := { s.p with i := setI || s.p.i }
          ram := pushedRam s.ram (pushTop s) [hi ret, lo ret, s.p.pack brk]
          db := s.p.pack brk }
      (read16 vec u).2.setPc (read16 vec u).1 := by
  have hp : (push8 (lo ret) (push8 (hi ret) s)).p = s.p := by rw [push8_push8]
  simp only [enterInterrupt, push16, hp, push8_push8_push8]
  cases setI <;> rfl

/-- Returning from an interrupt: three pulls give the flags and PC (R818). -/
theorem returnFromInterrupt_eq (s : State) :
    returnFromInterrupt s =
      { s with
        sp := s.sp + 3
        p := Flags.unpack (pulledByte s 0)
        pc := word (pulledByte s 2) (pulledByte s 1)
        db := pulledByte s 2 } := by
  have h : ∀ j, pulledByte ({ s with sp := s.sp + 1, db := pulledByte s 0 }.setP (Flags.unpack (pulledByte s 0))) j =
      pulledByte s (1 + j) := by
    intro j
    refine pulledByte_after (s := s) ?_ ?_ 1 ?_ j <;> rfl
  have h3 : s.sp + 1 + 2 = s.sp + 3 := add_ofNat_add s.sp 1 2
  simp only [returnFromInterrupt, pull8_pulledByte, pull16_eq, h]
  rw [← h3]
  rfl

/-! ## What pushed bytes leave in RAM -/

theorem pageOne_inj {c : Byte} {j k : Nat} (hj : j < 256) (hk : k < 256)
    (h : pageOne (c - BitVec.ofNat 8 j) = pageOne (c - BitVec.ofNat 8 k)) : j = k := by
  simp only [pageOne, BitVec.toNat_sub, BitVec.toNat_ofNat] at h
  omega

theorem read_pushedRam_ne {m : Memory} {c : Byte} {i : Nat} {bs : List Byte}
    (h : ∀ j, j < bs.length → i ≠ pageOne (c - BitVec.ofNat 8 j)) : (pushedRam m c bs).read .ram i = m.read .ram i := by
  induction bs generalizing m c with
  | nil => rfl
  | cons b bs ih =>
    rw [pushedRam, ih, Cells.read_write_ne]
    · exact fun e => h 0 (by simp) (by rw [e]; exact congrArg pageOne (BitVec.sub_zero c).symm)
    · intro j hj e
      refine h (j + 1) (by simp; omega) (e.trans ?_)
      rw [Nat.add_comm j 1, ← sub_ofNat_add]; rfl

theorem pushedRam_rising {m : Memory} {c : Byte} {bs : List Byte} (h : m.rising = true) :
    (pushedRam m c bs).rising = true := by
  induction bs generalizing m c with
  | nil => exact h
  | cons b bs ih => exact ih (Cells.write_rising _ h)

theorem read_pushedRam {m : Memory} {c : Byte} {j : Nat} {bs : List Byte} (hr : m.rising = true)
    (hl : bs.length ≤ 256) (hj : j < bs.length) :
    some ((pushedRam m c bs).read .ram (pageOne (c - BitVec.ofNat 8 j))) = bs[j]? := by
  induction bs generalizing m c j with
  | nil => simp at hj
  | cons b bs ih =>
    simp only [List.length_cons] at hl hj
    cases j with
    | zero =>
      have h0 : c - BitVec.ofNat 8 0 = c := BitVec.sub_zero c
      rw [pushedRam, h0, read_pushedRam_ne]
      · simp [Cells.read_write_same _ hr]
      · intro i hi e
        have e' : pageOne (c - BitVec.ofNat 8 0) = pageOne (c - BitVec.ofNat 8 (1 + i)) := by
          rw [h0, ← sub_ofNat_add]; exact e
        have := pageOne_inj (by omega) (by omega) e'
        omega
    | succ j =>
      have h1 : c - BitVec.ofNat 8 (j + 1) = c - 1 - BitVec.ofNat 8 j := by
        rw [Nat.add_comm j 1, ← sub_ofNat_add]; rfl
      rw [pushedRam, h1, ih (Cells.write_rising _ hr) (by omega) (by omega)]
      rfl

/-- The bytes pushed come back in the opposite order (R106, R107). -/
theorem pulledByte_pushedRam {s t : State} {bs : List Byte} (hl : bs.length ≤ 256) (hr : s.ram.rising = true) {k : Nat}
    (hk : k < bs.length) (hp : t.params = s.params) (hs : t.sp = s.sp - BitVec.ofNat 8 bs.length)
    (ht : t.ram = pushedRam s.ram (pushTop s) bs) : some (pulledByte t k) = bs[bs.length - 1 - k]? := by
  rw [← read_pushedRam (c := pushTop s) hr hl (j := bs.length - 1 - k) (by omega)]
  unfold pulledByte pullTop pushTop
  rw [ht, hp, hs]
  congr 3
  apply BitVec.eq_of_toNat_eq
  have e1 : (1 : Byte).toNat = 1 := rfl
  have := s.sp.isLt
  generalize hm : bs.length - 1 - k = m
  have hn : bs.length = m + 1 + k := by omega
  rw [hn]
  cases s.params.stackOrder <;>
    (simp only [BitVec.toNat_add, BitVec.toNat_sub, BitVec.toNat_ofNat, e1]; omega)

end Sys2Proof.Machine
end

