-- ==== Sys2Proof/Laws/Step.lean ====
section
/-! SUPPORT. The fetch and the step: a fetch from memory reads exactly the instruction's bytes, and what holds after every
phase holds after the step. -/

namespace Sys2Proof.Machine

/-- Where the opcode's read changed `db` only, nothing of it is taken back. -/
theorem afterOpcode_setDb (i : Instr) (s : State) (v : Byte) : afterOpcode i s (s.setDb v) = s.setDb v := by
  unfold afterOpcode
  split <;> rfl

/-- A fetch where memory answers at the instruction's addresses gives the instruction, and leaves the last byte in `db`
(R302, R316). -/
theorem fetch_of_bytes {s : State} {i : Instr} {bytes : List Byte} (hd : decode bytes = .ok (i, []))
    (hm : ∀ k, k < bytes.length → memByte s (s.pc + BitVec.ofNat 16 k) = bytes[k]?) :
    fetch s = (i, s.setDb (bytes.getLastD 0)) := by
  have m : ∀ d a, memByte (s.setDb d) a = memByte s a := fun d a => memByte_congr rfl rfl rfl a
  have h0 : s.pc + BitVec.ofNat 16 0 = s.pc := BitVec.add_zero _
  rcases bytes with _ | ⟨op, l⟩
  · simp [decode] at hd
  have hop : memByte s s.pc = some op := by
    have := hm 0 (by simp)
    rw [h0] at this
    simpa using this
  unfold fetch
  rw [read8_of_memByte hop]
  simp only []
  generalize hf : opcodeFormat op = fm
  cases fm with
  | one j =>
    simp [decode, hf] at hd
    obtain ⟨rfl, rfl⟩ := hd
    exact congrArg (Prod.mk j) (afterOpcode_setDb j s op)
  | two f =>
    rcases l with _ | ⟨b1, r⟩ <;> simp [decode, hf] at hd
    obtain ⟨rfl, rfl⟩ := hd
    have h1 : memByte (s.setDb op) (s.pc + 1) = some b1 := by rw [m]; exact hm 1 (by simp)
    simp only []
    rw [read8_of_memByte h1]
    rfl
  | three f =>
    rcases l with _ | ⟨b1, _ | ⟨b2, r⟩⟩ <;> simp [decode, hf] at hd
    obtain ⟨rfl, rfl⟩ := hd
    have h1 : memByte (s.setDb op) (s.pc + 1) = some b1 := by rw [m]; exact hm 1 (by simp)
    have h2 : memByte (s.setDb b1) (s.pc + 2) = some b2 := by rw [m]; exact hm 2 (by simp)
    simp only []
    rw [read8_of_memByte h1]
    simp only []
    rw [show ((s.setDb op).setDb b1) = s.setDb b1 from rfl, read8_of_memByte h2]
    rfl

/-- A fetch that meets a byte with no table entry keeps of its read `db` and a bounds fault (R523, R802). -/
theorem fetch_undecodable {s : State} (h : opcodeFormat (read8 s.pc s).1 = .one (.undecodable (read8 s.pc s).1)) :
    fetch s = (.undecodable (read8 s.pc s).1, onlyLatched s (read8 s.pc s).2) := by
  simp only [fetch, h, afterOpcode]

theorem stopWith_next {r : Fault} {s t : State} (h : stopWith r s = .next t) : t = s := by
  cases r <;> simp [stopWith] at h
  exact h.symm

theorem unlessFaulted_next {s t : State} {k : State → Host.Outcome State Fault Refusal}
    (h : unlessFaulted s k = .next t) : t = s ∨ k s = .next t := by
  unfold unlessFaulted at h
  split at h
  · exact .inl (stopWith_next h)
  · exact .inr h

/-- What the accesses, a latched fault, the outputs' clearing and the three later phases keep, a step keeps (R830). -/
theorem Closed.step {P : State → Prop} (hc : Closed P) (hr : ∀ r s, P s → P (raise r s))
    (h0 : ∀ s, P s → P (clearOutputs s)) (h1 : ∀ s, P s → P (ppuCatchUp s)) (h2 : ∀ s, P s → P (apuCatchUp s))
    (h3 : ∀ s, P s → P (arbiter s)) {s t : State} (hs : P s) (h : Machine.step s = .next t) : P t := by
  unfold Machine.step at h
  split at h
  · simp at h
  · simp only [] at h
    split at h
    · simp at h
    · obtain ⟨u, hu, hpu⟩ := hc.exec (Machine.fetch (clearOutputs s)).1
        (fun _ _ r => hr r _ (hc.fetch (h0 s hs))) (hc.fetch (h0 s hs))
      rw [hu] at h
      simp only [finishStep] at h
      rcases unlessFaulted_next h with rfl | h
      · exact hpu
      rcases unlessFaulted_next h with rfl | h
      · exact h1 _ hpu
      rcases unlessFaulted_next h with rfl | h
      · exact h2 _ (h1 _ hpu)
      rcases unlessFaulted_next h with rfl | h
      · exact h3 _ (h2 _ (h1 _ hpu))
      · cases h
        exact h3 _ (h2 _ (h1 _ hpu))

end Sys2Proof.Machine
end

