-- ==== Sys2Proof/Tests/Slice0.lean ====
section
/-! SUPPORT. Tests: the well-formedness check, decoding of a written word for every constructor (the words are the bytes of
spec/opcode_table.json and of the rules' encoding lines), the vectors of spec/95_test_vectors.md by their numbers there,
one step each, and a witness that meets the hypotheses for every statement that has some. -/

namespace Sys2Proof.Tests

set_option Elab.async false

open Sys2Proof.Machine

/-! ## Well-formedness -/

/-- The only check: an `undecodable` byte is one of the 25 of R314; `0xA9` is `LDA`, and the term is refused. -/
theorem test_wellFormed_refuses_a_decodable_byte : (Instr.undecodable 0xA9).wellFormed = false := by decide

theorem test_wellFormed_accepts : (Instr.undecodable 0x02).wellFormed = true ∧ (Instr.ldaImm 0x34).wellFormed = true := by
  decide

/-! ## Decoding: every constructor from a word of its row -/

/-- The whole of `word` decodes to `i`. -/
def reads (word : List Byte) (i : Instr) : Bool :=
  match decode word with
  | .ok (j, rest) => decide (j = i) && rest.isEmpty
  | .error _ => false

theorem test_decode_loads :
    reads [0xA0, 0x34] (.ldyImm 0x34) && reads [0xA1, 0x34] (.ldaIzx 0x34) &&
      reads [0xA2, 0x34] (.ldxImm 0x34) && reads [0xA4, 0x34] (.ldyZp 0x34) &&
      reads [0xA5, 0x34] (.ldaZp 0x34) && reads [0xA6, 0x34] (.ldxZp 0x34) &&
      reads [0xA9, 0x34] (.ldaImm 0x34) && reads [0xAC, 0x34, 0x12] (.ldyAbs 0x34 0x12) &&
      reads [0xAD, 0x34, 0x12] (.ldaAbs 0x34 0x12) && reads [0xAE, 0x34, 0x12] (.ldxAbs 0x34 0x12) &&
      reads [0xB1, 0x34] (.ldaIzy 0x34) && reads [0xB4, 0x34] (.ldyZpx 0x34) &&
      reads [0xB5, 0x34] (.ldaZpx 0x34) && reads [0xB6, 0x34] (.ldxZpy 0x34) &&
      reads [0xB9, 0x34, 0x12] (.ldaAby 0x34 0x12) && reads [0xBC, 0x34, 0x12] (.ldyAbx 0x34 0x12) &&
      reads [0xBD, 0x34, 0x12] (.ldaAbx 0x34 0x12) && reads [0xBE, 0x34, 0x12] (.ldxAby 0x34 0x12) := by
  decide

theorem test_decode_stores :
    reads [0x81, 0x34] (.staIzx 0x34) && reads [0x84, 0x34] (.styZp 0x34) &&
      reads [0x85, 0x34] (.staZp 0x34) && reads [0x86, 0x34] (.stxZp 0x34) &&
      reads [0x8C, 0x34, 0x12] (.styAbs 0x34 0x12) && reads [0x8D, 0x34, 0x12] (.staAbs 0x34 0x12) &&
      reads [0x8E, 0x34, 0x12] (.stxAbs 0x34 0x12) && reads [0x91, 0x34] (.staIzy 0x34) &&
      reads [0x94, 0x34] (.styZpx 0x34) && reads [0x95, 0x34] (.staZpx 0x34) &&
      reads [0x96, 0x34] (.stxZpy 0x34) && reads [0x99, 0x34, 0x12] (.staAby 0x34 0x12) &&
      reads [0x9D, 0x34, 0x12] (.staAbx 0x34 0x12) := by
  decide

theorem test_decode_transfers :
    reads [0x8A] .txa && reads [0x98] .tya && reads [0x9A] .txs && reads [0xA8] .tay && reads [0xAA] .tax &&
      reads [0xBA] .tsx := by
  decide

theorem test_decode_add_and_subtract :
    reads [0x61, 0x34] (.adcIzx 0x34) && reads [0x65, 0x34] (.adcZp 0x34) &&
      reads [0x69, 0x34] (.adcImm 0x34) && reads [0x6D, 0x34, 0x12] (.adcAbs 0x34 0x12) &&
      reads [0x71, 0x34] (.adcIzy 0x34) && reads [0x75, 0x34] (.adcZpx 0x34) &&
      reads [0x79, 0x34, 0x12] (.adcAby 0x34 0x12) && reads [0x7D, 0x34, 0x12] (.adcAbx 0x34 0x12) &&
      reads [0xE1, 0x34] (.sbcIzx 0x34) && reads [0xE5, 0x34] (.sbcZp 0x34) &&
      reads [0xE9, 0x34] (.sbcImm 0x34) && reads [0xEB, 0x34] (.sbcImmEB 0x34) &&
      reads [0xED, 0x34, 0x12] (.sbcAbs 0x34 0x12) && reads [0xF1, 0x34] (.sbcIzy 0x34) &&
      reads [0xF5, 0x34] (.sbcZpx 0x34) && reads [0xF9, 0x34, 0x12] (.sbcAby 0x34 0x12) &&
      reads [0xFD, 0x34, 0x12] (.sbcAbx 0x34 0x12) := by
  decide

theorem test_decode_logic :
    reads [0x01, 0x34] (.oraIzx 0x34) && reads [0x05, 0x34] (.oraZp 0x34) &&
      reads [0x09, 0x34] (.oraImm 0x34) && reads [0x0D, 0x34, 0x12] (.oraAbs 0x34 0x12) &&
      reads [0x11, 0x34] (.oraIzy 0x34) && reads [0x15, 0x34] (.oraZpx 0x34) &&
      reads [0x19, 0x34, 0x12] (.oraAby 0x34 0x12) && reads [0x1D, 0x34, 0x12] (.oraAbx 0x34 0x12) &&
      reads [0x21, 0x34] (.andIzx 0x34) && reads [0x25, 0x34] (.andZp 0x34) &&
      reads [0x29, 0x34] (.andImm 0x34) && reads [0x2D, 0x34, 0x12] (.andAbs 0x34 0x12) &&
      reads [0x31, 0x34] (.andIzy 0x34) && reads [0x35, 0x34] (.andZpx 0x34) &&
      reads [0x39, 0x34, 0x12] (.andAby 0x34 0x12) && reads [0x3D, 0x34, 0x12] (.andAbx 0x34 0x12) &&
      reads [0x41, 0x34] (.eorIzx 0x34) && reads [0x45, 0x34] (.eorZp 0x34) &&
      reads [0x49, 0x34] (.eorImm 0x34) && reads [0x4D, 0x34, 0x12] (.eorAbs 0x34 0x12) &&
      reads [0x51, 0x34] (.eorIzy 0x34) && reads [0x55, 0x34] (.eorZpx 0x34) &&
      reads [0x59, 0x34, 0x12] (.eorAby 0x34 0x12) && reads [0x5D, 0x34, 0x12] (.eorAbx 0x34 0x12) := by
  decide

theorem test_decode_compares :
    reads [0x24, 0x34] (.bitZp 0x34) && reads [0x2C, 0x34, 0x12] (.bitAbs 0x34 0x12) &&
      reads [0xC0, 0x34] (.cpyImm 0x34) && reads [0xC1, 0x34] (.cmpIzx 0x34) &&
      reads [0xC4, 0x34] (.cpyZp 0x34) && reads [0xC5, 0x34] (.cmpZp 0x34) &&
      reads [0xC9, 0x34] (.cmpImm 0x34) && reads [0xCC, 0x34, 0x12] (.cpyAbs 0x34 0x12) &&
      reads [0xCD, 0x34, 0x12] (.cmpAbs 0x34 0x12) && reads [0xD1, 0x34] (.cmpIzy 0x34) &&
      reads [0xD5, 0x34] (.cmpZpx 0x34) && reads [0xD9, 0x34, 0x12] (.cmpAby 0x34 0x12) &&
      reads [0xDD, 0x34, 0x12] (.cmpAbx 0x34 0x12) && reads [0xE0, 0x34] (.cpxImm 0x34) &&
      reads [0xE4, 0x34] (.cpxZp 0x34) && reads [0xEC, 0x34, 0x12] (.cpxAbs 0x34 0x12) := by
  decide

theorem test_decode_increments :
    reads [0x88] .dey && reads [0xC6, 0x34] (.decZp 0x34) && reads [0xC8] .iny && reads [0xCA] .dex &&
      reads [0xCE, 0x34, 0x12] (.decAbs 0x34 0x12) && reads [0xD6, 0x34] (.decZpx 0x34) &&
      reads [0xDE, 0x34, 0x12] (.decAbx 0x34 0x12) && reads [0xE6, 0x34] (.incZp 0x34) &&
      reads [0xE8] .inx && reads [0xEE, 0x34, 0x12] (.incAbs 0x34 0x12) &&
      reads [0xF6, 0x34] (.incZpx 0x34) && reads [0xFE, 0x34, 0x12] (.incAbx 0x34 0x12) := by
  decide

theorem test_decode_shifts :
    reads [0x06, 0x34] (.aslZp 0x34) && reads [0x0A] .aslAcc &&
      reads [0x0E, 0x34, 0x12] (.aslAbs 0x34 0x12) && reads [0x16, 0x34] (.aslZpx 0x34) &&
      reads [0x1E, 0x34, 0x12] (.aslAbx 0x34 0x12) && reads [0x26, 0x34] (.rolZp 0x34) &&
      reads [0x2A] .rolAcc && reads [0x2E, 0x34, 0x12] (.rolAbs 0x34 0x12) &&
      reads [0x36, 0x34] (.rolZpx 0x34) && reads [0x3E, 0x34, 0x12] (.rolAbx 0x34 0x12) &&
      reads [0x46, 0x34] (.lsrZp 0x34) && reads [0x4A] .lsrAcc &&
      reads [0x4E, 0x34, 0x12] (.lsrAbs 0x34 0x12) && reads [0x56, 0x34] (.lsrZpx 0x34) &&
      reads [0x5E, 0x34, 0x12] (.lsrAbx 0x34 0x12) && reads [0x66, 0x34] (.rorZp 0x34) &&
      reads [0x6A] .rorAcc && reads [0x6E, 0x34, 0x12] (.rorAbs 0x34 0x12) &&
      reads [0x76, 0x34] (.rorZpx 0x34) && reads [0x7E, 0x34, 0x12] (.rorAbx 0x34 0x12) := by
  decide

theorem test_decode_jumps :
    reads [0x00] .brk && reads [0x20, 0x34, 0x12] (.jsr 0x34 0x12) && reads [0x40] .rti &&
      reads [0x4C, 0x34, 0x12] (.jmpAbs 0x34 0x12) && reads [0x60] .rts &&
      reads [0x6C, 0x34, 0x12] (.jmpInd 0x34 0x12) := by
  decide

theorem test_decode_branches :
    reads [0x10, 0x34] (.bpl 0x34) && reads [0x30, 0x34] (.bmi 0x34) && reads [0x50, 0x34] (.bvc 0x34) &&
      reads [0x70, 0x34] (.bvs 0x34) && reads [0x90, 0x34] (.bcc 0x34) && reads [0xB0, 0x34] (.bcs 0x34) &&
      reads [0xD0, 0x34] (.bne 0x34) && reads [0xF0, 0x34] (.beq 0x34) := by
  decide

theorem test_decode_stack :
    reads [0x08] .php && reads [0x28] .plp && reads [0x48] .pha && reads [0x68] .pla := by
  decide

theorem test_decode_flags :
    reads [0x18] .clc && reads [0x38] .sec && reads [0x58] .cli && reads [0x78] .sei && reads [0xB8] .clv &&
      reads [0xD8] .cld && reads [0xF8] .sed := by
  decide

theorem test_decode_nops :
    reads [0x04, 0x34] (.nopZp04 0x34) && reads [0x0C, 0x34, 0x12] (.nopAbs0C 0x34 0x12) &&
      reads [0x14, 0x34] (.nopZpx14 0x34) && reads [0x1A] .nop1A &&
      reads [0x1C, 0x34, 0x12] (.nopAbx1C 0x34 0x12) && reads [0x34, 0x34] (.nopZpx34 0x34) &&
      reads [0x3A] .nop3A && reads [0x3C, 0x34, 0x12] (.nopAbx3C 0x34 0x12) &&
      reads [0x44, 0x34] (.nopZp44 0x34) && reads [0x54, 0x34] (.nopZpx54 0x34) && reads [0x5A] .nop5A &&
      reads [0x5C, 0x34, 0x12] (.nopAbx5C 0x34 0x12) && reads [0x64, 0x34] (.nopZp64 0x34) &&
      reads [0x74, 0x34] (.nopZpx74 0x34) && reads [0x7A] .nop7A &&
      reads [0x7C, 0x34, 0x12] (.nopAbx7C 0x34 0x12) && reads [0x80, 0x34] (.nopImm80 0x34) &&
      reads [0x82, 0x34] (.nopImm82 0x34) && reads [0x89, 0x34] (.nopImm89 0x34) &&
      reads [0xC2, 0x34] (.nopImmC2 0x34) && reads [0xD4, 0x34] (.nopZpxD4 0x34) && reads [0xDA] .nopDA &&
      reads [0xDC, 0x34, 0x12] (.nopAbxDC 0x34 0x12) && reads [0xE2, 0x34] (.nopImmE2 0x34) &&
      reads [0xEA] .nop && reads [0xF4, 0x34] (.nopZpxF4 0x34) && reads [0xFA] .nopFA &&
      reads [0xFC, 0x34, 0x12] (.nopAbxFC 0x34 0x12) := by
  decide

theorem test_decode_lax_and_sax :
    reads [0x83, 0x34] (.saxIzx 0x34) && reads [0x87, 0x34] (.saxZp 0x34) &&
      reads [0x8F, 0x34, 0x12] (.saxAbs 0x34 0x12) && reads [0x97, 0x34] (.saxZpy 0x34) &&
      reads [0xA3, 0x34] (.laxIzx 0x34) && reads [0xA7, 0x34] (.laxZp 0x34) &&
      reads [0xAF, 0x34, 0x12] (.laxAbs 0x34 0x12) && reads [0xB3, 0x34] (.laxIzy 0x34) &&
      reads [0xB7, 0x34] (.laxZpy 0x34) && reads [0xBF, 0x34, 0x12] (.laxAby 0x34 0x12) := by
  decide

theorem test_decode_dcp_and_isc :
    reads [0xC3, 0x34] (.dcpIzx 0x34) && reads [0xC7, 0x34] (.dcpZp 0x34) &&
      reads [0xCF, 0x34, 0x12] (.dcpAbs 0x34 0x12) && reads [0xD3, 0x34] (.dcpIzy 0x34) &&
      reads [0xD7, 0x34] (.dcpZpx 0x34) && reads [0xDB, 0x34, 0x12] (.dcpAby 0x34 0x12) &&
      reads [0xDF, 0x34, 0x12] (.dcpAbx 0x34 0x12) && reads [0xE3, 0x34] (.iscIzx 0x34) &&
      reads [0xE7, 0x34] (.iscZp 0x34) && reads [0xEF, 0x34, 0x12] (.iscAbs 0x34 0x12) &&
      reads [0xF3, 0x34] (.iscIzy 0x34) && reads [0xF7, 0x34] (.iscZpx 0x34) &&
      reads [0xFB, 0x34, 0x12] (.iscAby 0x34 0x12) && reads [0xFF, 0x34, 0x12] (.iscAbx 0x34 0x12) := by
  decide

theorem test_decode_slo_and_rla :
    reads [0x03, 0x34] (.sloIzx 0x34) && reads [0x07, 0x34] (.sloZp 0x34) &&
      reads [0x0F, 0x34, 0x12] (.sloAbs 0x34 0x12) && reads [0x13, 0x34] (.sloIzy 0x34) &&
      reads [0x17, 0x34] (.sloZpx 0x34) && reads [0x1B, 0x34, 0x12] (.sloAby 0x34 0x12) &&
      reads [0x1F, 0x34, 0x12] (.sloAbx 0x34 0x12) && reads [0x23, 0x34] (.rlaIzx 0x34) &&
      reads [0x27, 0x34] (.rlaZp 0x34) && reads [0x2F, 0x34, 0x12] (.rlaAbs 0x34 0x12) &&
      reads [0x33, 0x34] (.rlaIzy 0x34) && reads [0x37, 0x34] (.rlaZpx 0x34) &&
      reads [0x3B, 0x34, 0x12] (.rlaAby 0x34 0x12) && reads [0x3F, 0x34, 0x12] (.rlaAbx 0x34 0x12) := by
  decide

theorem test_decode_sre_and_rra :
    reads [0x43, 0x34] (.sreIzx 0x34) && reads [0x47, 0x34] (.sreZp 0x34) &&
      reads [0x4F, 0x34, 0x12] (.sreAbs 0x34 0x12) && reads [0x53, 0x34] (.sreIzy 0x34) &&
      reads [0x57, 0x34] (.sreZpx 0x34) && reads [0x5B, 0x34, 0x12] (.sreAby 0x34 0x12) &&
      reads [0x5F, 0x34, 0x12] (.sreAbx 0x34 0x12) && reads [0x63, 0x34] (.rraIzx 0x34) &&
      reads [0x67, 0x34] (.rraZp 0x34) && reads [0x6F, 0x34, 0x12] (.rraAbs 0x34 0x12) &&
      reads [0x73, 0x34] (.rraIzy 0x34) && reads [0x77, 0x34] (.rraZpx 0x34) &&
      reads [0x7B, 0x34, 0x12] (.rraAby 0x34 0x12) && reads [0x7F, 0x34, 0x12] (.rraAbx 0x34 0x12) := by
  decide

theorem test_decode_undecodable :
    ∀ op ∈ ([0x02, 0x0B, 0x12, 0x22, 0x2B, 0x32, 0x42, 0x4B, 0x52, 0x62, 0x6B, 0x72, 0x8B] ++
        [0x92, 0x93, 0x9B, 0x9C, 0x9E, 0x9F, 0xAB, 0xB2, 0xBB, 0xCB, 0xD2, 0xF2] : List Byte),
      reads [op] (.undecodable op) := by
  decide

/-- No byte, and operand bytes that are missing, are refused by name. -/
theorem test_decode_rejects :
    decode [] = .error .noOpcode ∧ decode [0xA9] = .error (.operandMissing 0xA9 1) ∧
      decode [0x8D, 0x34] = .error (.operandMissing 0x8D 2) :=
  ⟨rfl, rfl, rfl⟩

/-- The table's bit numbering: `STA $0200` is 0x8D, 0x00, 0x02, low byte first. -/
theorem test_decodeTableWord :
    decodeTableWord 24 0x02008D = some (.staAbs 0x00 0x02) ∧ decodeTableWord 8 0x8D = some (.staAbs 0x00 0x00) := by
  decide

/-! ## One step on a small state -/

/-- Put bytes into memory from an address on. -/
def place (a : Addr) (bytes : List Byte) (s : State) : State := placeAt a bytes s

/-- Flags N V D I Z C, as the vectors write them. -/
def flags (n v d i z c : Nat) : Flags := ⟨n == 1, v == 1, d == 1, i == 1, z == 1, c == 1⟩

/-- The vectors' start state: reset, with the code at 0x8000. -/
def start : State := { State.reset with pc := 0x8000 }

def mos : Params := { Params.default with stackOrder := .mosPostdecrement }

/-- One step from `s` with `code` at PC answers a state where `p` holds. -/
def stepGives (code : List Byte) (s : State) (p : State → Bool) : Bool :=
  match step (place s.pc code s) with
  | .next t => p t
  | .fault _ => false
  | .refused _ => false

/-! Instructions (95_test_vectors.md 2.1 to 2.6). -/

/-- L1: load of 0 sets Z. -/
theorem test_L1 : stepGives [0xA9, 0x00] { start with a := 0x55 } (fun t =>
    t.a == 0x00 && t.pc == 0x8002 && t.p == flags 0 0 0 1 1 0 && t.cyc == 2) := by
  decide +kernel

/-- L3: abx read, page crossed (0x80FF + 1): 4 + 1. -/
theorem test_L3 : stepGives [0xBD, 0xFF, 0x80] (place 0x8100 [0x7F] { start with x := 0x01 }) (fun t =>
    t.a == 0x7F && t.pc == 0x8003 && t.p == flags 0 0 0 1 0 0 && t.cyc == 5) := by
  decide +kernel

/-- L5: izy, pointer 0x02FF + 1 crosses: 5 + 1. -/
theorem test_L5 : stepGives [0xB1, 0x10] (place 0x0010 [0xFF, 0x02] (place 0x0300 [0x99] { start with y := 0x01 })) (fun t =>
    t.a == 0x99 && t.pc == 0x8002 && t.p == flags 1 0 0 1 0 0 && t.cyc == 6) := by
  decide +kernel

/-- L6: izy pointer at 0xFF: high byte comes from 0x0000, not 0x0100. -/
theorem test_L6 : stepGives [0xB1, 0xFF] (place 0x0000 [0x03] (place 0x00FF [0x00] (place 0x0310 [0x77] { start with y := 0x10 }))) (fun t =>
    t.a == 0x77 && t.pc == 0x8002 && t.p == flags 0 0 0 1 0 0 && t.cyc == 5) := by
  decide +kernel

/-- L7: izx: 0xFA + 4 = 0xFE; pointer bytes at 0xFE, 0xFF give 0x1234, which is RAM mirror of 0x0234. -/
theorem test_L7 : stepGives [0xA1, 0xFA] (place 0x0000 [0x02] (place 0x00FF [0x12] (place 0x00FE [0x34] (place 0x0234 [0x66] { start with x := 0x04 })))) (fun t =>
    t.a == 0x66 && t.pc == 0x8002 && t.p == flags 0 0 0 1 0 0 && t.cyc == 6) := by
  decide +kernel

/-- L8: zpy wraps inside page zero: 0x20 + 0xF0 = 0x10. -/
theorem test_L8 : stepGives [0xB6, 0x20] (place 0x0010 [0x5A] { start with y := 0xF0 }) (fun t =>
    t.x == 0x5A && t.pc == 0x8002 && t.p == flags 0 0 0 1 0 0 && t.cyc == 4) := by
  decide +kernel

/-- L9: abx store crossing a page: no extra cycle. -/
theorem test_L9 : stepGives [0x9D, 0x01, 0x02] { start with a := 0x42, x := 0xFF } (fun t =>
    t.pc == 0x8003 && memByte t 0x0300 == some 0x42 && t.p == flags 0 0 0 1 0 0 && t.cyc == 5) := by
  decide +kernel

/-- L10: store to 0x0800 lands in ram[0]: reading 0x0000 gives 0x42. -/
theorem test_L10 : stepGives [0x8D, 0x00, 0x08] { start with a := 0x42 } (fun t =>
    t.pc == 0x8003 && memByte t 0x0800 == some 0x42 && t.p == flags 0 0 0 1 0 0 && t.cyc == 4) := by
  decide +kernel

/-- L11: store to program ROM: nothing changes but db = 0x42; same cost. -/
theorem test_L11 : stepGives [0x8D, 0x00, 0x90] { start with a := 0x42 } (fun t =>
    t.pc == 0x8003 && memByte t 0x9000 == some 0xFF && t.db == 0x42 && t.p == flags 0 0 0 1 0 0 && t.cyc == 4) := by
  decide +kernel

/-- L12: load from an address nothing drives returns db, which holds the last byte fetched, 0x40. -/
theorem test_L12 : stepGives [0xAD, 0x18, 0x40] { start with a := 0x00 } (fun t =>
    t.a == 0x40 && t.pc == 0x8003 && t.p == flags 0 0 0 1 0 0 && t.cyc == 4) := by
  decide +kernel

/-- L13: TXS writes no flag although the value is 0. -/
theorem test_L13 : stepGives [0x9A] { start with x := 0x00 } (fun t =>
    t.sp == 0x00 && t.pc == 0x8001 && t.p == flags 0 0 0 1 0 0 && t.cyc == 2) := by
  decide +kernel

/-- L14: TSX sets N from S. -/
theorem test_L14 : stepGives [0xBA] { start with sp := 0x80 } (fun t =>
    t.x == 0x80 && t.pc == 0x8001 && t.p == flags 1 0 0 1 0 0 && t.cyc == 2) := by
  decide +kernel

/-- L15: TAY of 0 sets Z. -/
theorem test_L15 : stepGives [0xA8] { start with a := 0x00, y := 0x01 } (fun t =>
    t.y == 0x00 && t.pc == 0x8001 && t.p == flags 0 0 0 1 1 0 && t.cyc == 2) := by
  decide +kernel

/-- A1: the source's example: signed overflow, no carry. -/
theorem test_A1 : stepGives [0x69, 0x50] { start with a := 0x50 } (fun t =>
    t.a == 0xA0 && t.pc == 0x8002 && t.p == flags 1 1 0 1 0 0 && t.cyc == 2) := by
  decide +kernel

/-- A4: -128 + -128: C and V set, result 0. -/
theorem test_A4 : stepGives [0x69, 0x80] { start with a := 0x80 } (fun t =>
    t.a == 0x00 && t.pc == 0x8002 && t.p == flags 0 1 0 1 1 1 && t.cyc == 2) := by
  decide +kernel

/-- A7: decimal flag set: result is binary 0x0A, not 0x10. -/
theorem test_A7 : stepGives [0x69, 0x01] { start with a := 0x09, p := flags 0 0 1 1 0 0 } (fun t =>
    t.a == 0x0A && t.pc == 0x8002 && t.p == flags 0 0 1 1 0 0 && t.cyc == 2) := by
  decide +kernel

/-- A8: SBC 0x50 - 0xF0: borrow (C = 0), no overflow. -/
theorem test_A8 : stepGives [0xE9, 0xF0] { start with a := 0x50, p := flags 0 0 0 1 0 1 } (fun t =>
    t.a == 0x60 && t.pc == 0x8002 && t.p == flags 0 0 0 1 0 0 && t.cyc == 2) := by
  decide +kernel

/-- A11: carry clear subtracts one more: 5 - 5 - 1. -/
theorem test_A11 : stepGives [0xE9, 0x05] { start with a := 0x05 } (fun t =>
    t.a == 0xFF && t.pc == 0x8002 && t.p == flags 1 0 0 1 0 0 && t.cyc == 2) := by
  decide +kernel

/-- A12: -128 - 1: V set. -/
theorem test_A12 : stepGives [0xE9, 0x01] { start with a := 0x80, p := flags 0 0 0 1 0 1 } (fun t =>
    t.a == 0x7F && t.pc == 0x8002 && t.p == flags 0 1 0 1 0 1 && t.cyc == 2) := by
  decide +kernel

/-- A14: CMP less: C clear, N from the difference 0xFF. -/
theorem test_A14 : stepGives [0xC9, 0x41] { start with a := 0x40 } (fun t =>
    t.a == 0x40 && t.pc == 0x8002 && t.p == flags 1 0 0 1 0 0 && t.cyc == 2) := by
  decide +kernel

/-- A15: CMP does not touch V even where the subtraction overflows. -/
theorem test_A15 : stepGives [0xC9, 0x01] { start with a := 0x80, p := flags 0 1 0 1 0 0 } (fun t =>
    t.a == 0x80 && t.pc == 0x8002 && t.p == flags 0 1 0 1 0 1 && t.cyc == 2) := by
  decide +kernel

/-- A16: CPX 0 - 0xFF: C clear, result 0x01. -/
theorem test_A16 : stepGives [0xE0, 0xFF] { start with x := 0x00 } (fun t =>
    t.x == 0x00 && t.pc == 0x8002 && t.p == flags 0 0 0 1 0 0 && t.cyc == 2) := by
  decide +kernel

/-- A17: BIT: Z from A and M (0), N and V from M bits 7 and 6; A unchanged. -/
theorem test_A17 : stepGives [0x24, 0x10] (place 0x0010 [0xC0] { start with a := 0x01 }) (fun t =>
    t.a == 0x01 && t.pc == 0x8002 && t.p == flags 1 1 0 1 1 0 && t.cyc == 3) := by
  decide +kernel

/-- A18: AND to zero. -/
theorem test_A18 : stepGives [0x29, 0x0F] { start with a := 0xF0 } (fun t =>
    t.a == 0x00 && t.pc == 0x8002 && t.p == flags 0 0 0 1 1 0 && t.cyc == 2) := by
  decide +kernel

/-- A19: ORA. -/
theorem test_A19 : stepGives [0x09, 0x0F] { start with a := 0xF0 } (fun t =>
    t.a == 0xFF && t.pc == 0x8002 && t.p == flags 1 0 0 1 0 0 && t.cyc == 2) := by
  decide +kernel

/-- A20: EOR to zero. -/
theorem test_A20 : stepGives [0x49, 0xFF] { start with a := 0xFF } (fun t =>
    t.a == 0x00 && t.pc == 0x8002 && t.p == flags 0 0 0 1 1 0 && t.cyc == 2) := by
  decide +kernel

/-- A21: INC wraps to 0; C untouched. -/
theorem test_A21 : stepGives [0xE6, 0x10] (place 0x0010 [0xFF] { start with p := flags 0 0 0 1 0 1 }) (fun t =>
    t.pc == 0x8002 && memByte t 0x0010 == some 0x00 && t.p == flags 0 0 0 1 1 1 && t.cyc == 5) := by
  decide +kernel

/-- A22: DEC wraps to 0xFF. -/
theorem test_A22 : stepGives [0xC6, 0x10] (place 0x0010 [0x00] start) (fun t =>
    t.pc == 0x8002 && memByte t 0x0010 == some 0xFF && t.p == flags 1 0 0 1 0 0 && t.cyc == 5) := by
  decide +kernel

/-- A23: INX wraps. -/
theorem test_A23 : stepGives [0xE8] { start with x := 0xFF } (fun t =>
    t.x == 0x00 && t.pc == 0x8001 && t.p == flags 0 0 0 1 1 0 && t.cyc == 2) := by
  decide +kernel

/-- A24: DEY wraps. -/
theorem test_A24 : stepGives [0x88] { start with y := 0x00 } (fun t =>
    t.y == 0xFF && t.pc == 0x8001 && t.p == flags 1 0 0 1 0 0 && t.cyc == 2) := by
  decide +kernel

/-- A25: INC abx crossing a page: 7, no extra cycle. -/
theorem test_A25 : stepGives [0xFE, 0x01, 0x02] (place 0x0300 [0x7F] { start with x := 0xFF }) (fun t =>
    t.pc == 0x8003 && memByte t 0x0300 == some 0x80 && t.p == flags 1 0 0 1 0 0 && t.cyc == 7) := by
  decide +kernel

/-- H1: ASL A: bit 7 to C, result 0. -/
theorem test_H1 : stepGives [0x0A] { start with a := 0x80 } (fun t =>
    t.a == 0x00 && t.pc == 0x8001 && t.p == flags 0 0 0 1 1 1 && t.cyc == 2) := by
  decide +kernel

/-- H2: LSR A: bit 0 to C; N always 0. -/
theorem test_H2 : stepGives [0x4A] { start with a := 0x01 } (fun t =>
    t.a == 0x00 && t.pc == 0x8001 && t.p == flags 0 0 0 1 1 1 && t.cyc == 2) := by
  decide +kernel

/-- H3: ROL A: old C enters bit 0, bit 7 to C. -/
theorem test_H3 : stepGives [0x2A] { start with a := 0x80, p := flags 0 0 0 1 0 1 } (fun t =>
    t.a == 0x01 && t.pc == 0x8001 && t.p == flags 0 0 0 1 0 1 && t.cyc == 2) := by
  decide +kernel

/-- H4: ROR A: old C enters bit 7. -/
theorem test_H4 : stepGives [0x6A] { start with a := 0x01, p := flags 0 0 0 1 0 1 } (fun t =>
    t.a == 0x80 && t.pc == 0x8001 && t.p == flags 1 0 0 1 0 1 && t.cyc == 2) := by
  decide +kernel

/-- H7: ROR abx crossing a page: 7, no extra cycle. -/
theorem test_H7 : stepGives [0x7E, 0xFF, 0x01] (place 0x0200 [0x80] { start with x := 0x01, p := flags 0 0 0 1 0 1 }) (fun t =>
    t.pc == 0x8003 && memByte t 0x0200 == some 0xC0 && t.p == flags 1 0 0 1 0 0 && t.cyc == 7) := by
  decide +kernel

/-- C1: JMP abs; operand is little-endian. -/
theorem test_C1 : stepGives [0x4C, 0x34, 0x92] start (fun t =>
    t.pc == 0x9234 && t.p == flags 0 0 0 1 0 0 && t.cyc == 3) := by
  decide +kernel

/-- C3: JMP ($02FF): high byte from 0x0200, not 0x0300. -/
theorem test_C3 : stepGives [0x6C, 0xFF, 0x02] (place 0x0300 [0xA0] (place 0x0200 [0x90] (place 0x02FF [0x00] start))) (fun t =>
    t.pc == 0x9000 && t.p == flags 0 0 0 1 0 0 && t.cyc == 5) := by
  decide +kernel

/-- C4: BEQ not taken: 2. -/
theorem test_C4 : stepGives [0xF0, 0x10] start (fun t =>
    t.pc == 0x8002 && t.p == flags 0 0 0 1 0 0 && t.cyc == 2) := by
  decide +kernel

/-- C6: taken, page crossed (0x80F2 to 0x8112): 4. -/
theorem test_C6 : stepGives [0xF0, 0x20] { start with pc := 0x80F0, p := flags 0 0 0 1 1 0 } (fun t =>
    t.pc == 0x8112 && t.p == flags 0 0 0 1 1 0 && t.cyc == 4) := by
  decide +kernel

/-- C8: backward across a page: from 0x8102 - 3 = 0x80FF: 4. -/
theorem test_C8 : stepGives [0x90, 0xFD] { start with pc := 0x8100 } (fun t =>
    t.pc == 0x80FF && t.p == flags 0 0 0 1 0 0 && t.cyc == 4) := by
  decide +kernel

/-- C9: largest forward displacement: 0x8002 + 127. -/
theorem test_C9 : stepGives [0x30, 0x7F] { start with p := flags 1 0 0 1 0 0 } (fun t =>
    t.pc == 0x8081 && t.p == flags 1 0 0 1 0 0 && t.cyc == 3) := by
  decide +kernel

/-- C10: largest backward displacement: 0x8002 - 128 = 0x7F82, page crossed. -/
theorem test_C10 : stepGives [0x70, 0x80] { start with p := flags 0 1 0 1 0 0 } (fun t =>
    t.pc == 0x7F82 && t.p == flags 0 1 0 1 0 0 && t.cyc == 4) := by
  decide +kernel

/-- C11: page compare uses pc0 + 2: branch at 0x80FE, next instruction at 0x8100, target 0x8102: same page, 3. -/
theorem test_C11 : stepGives [0xF0, 0x02] { start with pc := 0x80FE, p := flags 0 0 0 1 1 0 } (fun t =>
    t.pc == 0x8102 && t.p == flags 0 0 0 1 1 0 && t.cyc == 3) := by
  decide +kernel

/-- C12: JSR pushes pc0 + 2 = 0x8002, high byte first. -/
theorem test_C12 : stepGives [0x20, 0x00, 0x90] { start with sp := 0xFF } (fun t =>
    t.sp == 0xFD && t.pc == 0x9000 && memByte t 0x01FE == some 0x80 && memByte t 0x01FD == some 0x02 && t.p == flags 0 0 0 1 0 0 && t.cyc == 6) := by
  decide +kernel

/-- C13: RTS pulls 0x8002 and adds 1. -/
theorem test_C13 : stepGives [0x60] (place 0x01FD [0x02, 0x80] { start with pc := 0x9000 }) (fun t =>
    t.sp == 0xFF && t.pc == 0x8003 && t.p == flags 0 0 0 1 0 0 && t.cyc == 6) := by
  decide +kernel

/-- C14: RTI pulls P (bits 5, 4 ignored) then PC, no increment; I restored to 0. -/
theorem test_C14 : stepGives [0x40] (place 0x01FA [0xC3, 0x23, 0x81] { start with pc := 0x9000, sp := 0xFA }) (fun t =>
    t.sp == 0xFD && t.pc == 0x8123 && t.p == flags 1 1 0 0 1 1 && t.cyc == 6) := by
  decide +kernel

/-- C15: JSR with the silicon's stack order: bytes land one higher. -/
theorem test_C15 : stepGives [0x20, 0x00, 0x90] { start with sp := 0xFF, params := mos } (fun t =>
    t.sp == 0xFD && t.pc == 0x9000 && memByte t 0x01FF == some 0x80 && memByte t 0x01FE == some 0x02 && t.p == flags 0 0 0 1 0 0 && t.cyc == 6) := by
  decide +kernel

/-- S1: PHA: S decremented, then the write. -/
theorem test_S1 : stepGives [0x48] { start with a := 0x42 } (fun t =>
    t.sp == 0xFC && t.pc == 0x8001 && memByte t 0x01FC == some 0x42 && t.p == flags 0 0 0 1 0 0 && t.cyc == 3) := by
  decide +kernel

/-- S2: PLA: read, then S incremented; sets N. -/
theorem test_S2 : stepGives [0x68] (place 0x01FC [0x80] { start with sp := 0xFC }) (fun t =>
    t.a == 0x80 && t.sp == 0xFD && t.pc == 0x8001 && t.p == flags 1 0 0 1 0 0 && t.cyc == 4) := by
  decide +kernel

/-- S3: PHP: image has bit 5 and bit 4 set: N, 1, B, I, C = 0xB5. -/
theorem test_S3 : stepGives [0x08] { start with p := flags 1 0 0 1 0 1 } (fun t =>
    t.sp == 0xFC && t.pc == 0x8001 && memByte t 0x01FC == some 0xB5 && t.p == flags 1 0 0 1 0 1 && t.cyc == 3) := by
  decide +kernel

/-- S4: PLP of 0xFF: all six flags set; bits 5, 4 go nowhere. -/
theorem test_S4 : stepGives [0x28] (place 0x01FC [0xFF] { start with sp := 0xFC }) (fun t =>
    t.sp == 0xFD && t.pc == 0x8001 && t.p == flags 1 1 1 1 1 1 && t.cyc == 4) := by
  decide +kernel

/-- S5: push at S = 0x00 wraps to 0x01FF. -/
theorem test_S5 : stepGives [0x48] { start with a := 0x11, sp := 0x00 } (fun t =>
    t.sp == 0xFF && t.pc == 0x8001 && memByte t 0x01FF == some 0x11 && t.p == flags 0 0 0 1 0 0 && t.cyc == 3) := by
  decide +kernel

/-- S6: pull at S = 0xFF reads 0x01FF and wraps S to 0x00. -/
theorem test_S6 : stepGives [0x68] (place 0x01FF [0x07] { start with sp := 0xFF }) (fun t =>
    t.a == 0x07 && t.sp == 0x00 && t.pc == 0x8001 && t.p == flags 0 0 0 1 0 0 && t.cyc == 4) := by
  decide +kernel

/-- S7: BRK: pushes 0x8002, then image 0x31 (bit 5, B, C); sets I; PC from 0xFFFE. -/
theorem test_S7 : stepGives [0x00, 0xEA] (place 0xFFFE [0x00, 0x90] { start with p := flags 0 0 0 0 0 1 }) (fun t =>
    t.sp == 0xFA && t.pc == 0x9000 && memByte t 0x01FC == some 0x80 && memByte t 0x01FB == some 0x02 && memByte t 0x01FA == some 0x31 && t.p == flags 0 0 0 1 0 1 && t.cyc == 7) := by
  decide +kernel

/-- S9: PHA with the silicon's order: write at 0x01FD, then decrement. -/
theorem test_S9 : stepGives [0x48] { start with a := 0x42, params := mos } (fun t =>
    t.sp == 0xFC && t.pc == 0x8001 && memByte t 0x01FD == some 0x42 && t.p == flags 0 0 0 1 0 0 && t.cyc == 3) := by
  decide +kernel

/-- S12: NOP. -/
theorem test_S12 : stepGives [0xEA] start (fun t =>
    t.pc == 0x8001 && t.p == flags 0 0 0 1 0 0 && t.cyc == 2) := by
  decide +kernel

/-- U1: LAX zp: A and X loaded. -/
theorem test_U1 : stepGives [0xA7, 0x10] (place 0x0010 [0x80] start) (fun t =>
    t.a == 0x80 && t.x == 0x80 && t.pc == 0x8002 && t.p == flags 1 0 0 1 0 0 && t.cyc == 3) := by
  decide +kernel

/-- U2: SAX zp: stores A and X; no flags. -/
theorem test_U2 : stepGives [0x87, 0x10] { start with a := 0xF0, x := 0x3C } (fun t =>
    t.pc == 0x8002 && memByte t 0x0010 == some 0x30 && t.p == flags 0 0 0 1 0 0 && t.cyc == 3) := by
  decide +kernel

/-- U3: DCP: memory decremented to 0x10, then compared: equal. -/
theorem test_U3 : stepGives [0xC7, 0x10] (place 0x0010 [0x11] { start with a := 0x10 }) (fun t =>
    t.a == 0x10 && t.pc == 0x8002 && memByte t 0x0010 == some 0x10 && t.p == flags 0 0 0 1 1 1 && t.cyc == 5) := by
  decide +kernel

/-- U4: ISC: memory incremented to 0x10, then subtracted: 0. -/
theorem test_U4 : stepGives [0xE7, 0x10] (place 0x0010 [0x0F] { start with a := 0x10, p := flags 0 0 0 1 0 1 }) (fun t =>
    t.a == 0x00 && t.pc == 0x8002 && memByte t 0x0010 == some 0x10 && t.p == flags 0 0 0 1 1 1 && t.cyc == 5) := by
  decide +kernel

/-- U5: SLO: memory shifted to 0x02 (C = 1), ORed into A. -/
theorem test_U5 : stepGives [0x07, 0x10] (place 0x0010 [0x81] { start with a := 0x01 }) (fun t =>
    t.a == 0x03 && t.pc == 0x8002 && memByte t 0x0010 == some 0x02 && t.p == flags 0 0 0 1 0 1 && t.cyc == 5) := by
  decide +kernel

/-- U6: RLA: memory rotated to 0x81, ANDed into A. -/
theorem test_U6 : stepGives [0x27, 0x10] (place 0x0010 [0x40] { start with a := 0xFF, p := flags 0 0 0 1 0 1 }) (fun t =>
    t.a == 0x81 && t.pc == 0x8002 && memByte t 0x0010 == some 0x81 && t.p == flags 1 0 0 1 0 0 && t.cyc == 5) := by
  decide +kernel

/-- U7: SRE: memory shifted to 0x01 (C = 1), exclusive-ORed into A. -/
theorem test_U7 : stepGives [0x47, 0x10] (place 0x0010 [0x03] { start with a := 0xFF }) (fun t =>
    t.a == 0xFE && t.pc == 0x8002 && memByte t 0x0010 == some 0x01 && t.p == flags 1 0 0 1 0 1 && t.cyc == 5) := by
  decide +kernel

/-- U8: RRA: memory rotated to 0x01 with C = 1, then added with that carry: 0x10 + 0x01 + 1. -/
theorem test_U8 : stepGives [0x67, 0x10] (place 0x0010 [0x03] { start with a := 0x10 }) (fun t =>
    t.a == 0x12 && t.pc == 0x8002 && memByte t 0x0010 == some 0x01 && t.p == flags 0 0 0 1 0 0 && t.cyc == 5) := by
  decide +kernel

/-- U9: SBC at 0xEB: as 0xE9. -/
theorem test_U9 : stepGives [0xEB, 0x10] { start with a := 0x50, p := flags 0 0 0 1 0 1 } (fun t =>
    t.a == 0x40 && t.pc == 0x8002 && t.p == flags 0 0 0 1 0 1 && t.cyc == 2) := by
  decide +kernel

/-- U10: NOP abx crossing a page: 4 + 1, and no operand read. -/
theorem test_U10 : stepGives [0x1C, 0xFF, 0x02] { start with x := 0x01 } (fun t =>
    t.pc == 0x8003 && t.p == flags 0 0 0 1 0 0 && t.cyc == 5) := by
  decide +kernel

/-- U11: NOP #imm: 2 bytes, 2 cycles. -/
theorem test_U11 : stepGives [0x80, 0x12] start (fun t =>
    t.pc == 0x8002 && t.p == flags 0 0 0 1 0 0 && t.cyc == 2) := by
  decide +kernel

/-- U12: NOP one byte. -/
theorem test_U12 : stepGives [0x1A] start (fun t =>
    t.pc == 0x8001 && t.p == flags 0 0 0 1 0 0 && t.cyc == 2) := by
  decide +kernel

/-- U14: LAX izy crossing a page: 5 + 1. -/
theorem test_U14 : stepGives [0xB3, 0x10] (place 0x0010 [0xFF, 0x02] (place 0x0300 [0x22] { start with y := 0x01 })) (fun t =>
    t.a == 0x22 && t.x == 0x22 && t.pc == 0x8002 && t.p == flags 0 0 0 1 0 0 && t.cyc == 6) := by
  decide +kernel

/-- The step from `s` answers the fault `r`. -/
def stopsWith (s : State) (r : Fault) : Bool :=
  match step s with
  | .fault q => q == r
  | .next _ => false
  | .refused _ => false

/-- U13: an undecodable byte latches the fault; only `db` and `fault` change, and the next step is stuck (R523, R802). -/
theorem test_U13 : stepGives [0x02] start (fun t =>
    t == { place 0x8000 [0x02] start with db := 0x02, fault := some (.undecodableOpcode 0x8000 0x02) } &&
      stopsWith t (.undecodableOpcode 0x8000 0x02)) := by
  decide +kernel

/-- The word the host places runs as the first instruction after reset. -/
theorem test_withFetchWord :
    stepGives [] (State.reset.withFetchWord 16 0x42A9) (fun t => t.a == 0x42 && t.cyc == 2) := by
  decide +kernel


/-! ## The bus (95_test_vectors.md 2.7) -/

theorem test_M1 :
    let s := place 0x0000 [0x42] start
    [0x0000, 0x0800, 0x1000, 0x1800].all fun a => (read8 a s).1 == 0x42 && (read8 a s).2.db == 0x42 := by
  decide +kernel

theorem test_M2 :
    write8 0x3FF9 0x1E start = { start with db := 0x1E, ppu := { start.ppu with mask := 0x1E, ioLatch := 0x1E } } := by
  decide +kernel

theorem test_M3 :
    let s := { start with db := 0x40 }
    read8 0x5000 s = (0x40, s) := by
  decide +kernel

theorem test_M4 :
    let s := { start with cart := { start.cart with prgBanks := 1, prg := [(0x0123, 0x77)] } }
    (read8 0x8123 s).1 = 0x77 ∧ (read8 0xC123 s).1 = 0x77 ∧ write8 0x8123 0x00 s = { s with db := 0x00 } := by
  decide +kernel

/-- M5 and M6: the last two bytes of a sprite DMA (the attribute bits that do not exist are dropped, the OAM address
wraps), and its 513 or 514 cycles by parity. -/
theorem test_M5_M6 :
    let s := place 0x02FE [0xFE, 0xFF] { start with ppu := { start.ppu with oamAddr := 0xFE } }
    let t := dmaLoop 0x02 2 s
    t.ppu.oam.read .oam 0xFE = 0xE2 ∧ t.ppu.oam.read .oam 0xFF = 0xFF ∧ t.ppu.oamAddr = 0 ∧ t.db = 0xFF ∧
      t.ppu.ioLatch = 0xFF ∧ dmaCost 0x4014 0 4 = 513 ∧ dmaCost 0x4014 1 4 = 514 := by
  decide +kernel

/-- M7: the strobe, then one button per read; the register fills with ones. -/
theorem test_M7 :
    let s := write8 0x4016 0 (write8 0x4016 1 { start with buttons0 := 0x09, db := 0x40 })
    ((List.range 10).map fun n => (read8 0x4016 (Claims.readTimes 0x4016 n { s with db := 0x40 })).1) =
      [0x41, 0x40, 0x40, 0x41, 0x40, 0x40, 0x40, 0x40, 0x41, 0x41] := by
  decide +kernel

/-- M8: with the strobe at 1 the register does not shift. -/
theorem test_M8 :
    let s := { write8 0x4016 1 { start with buttons0 := 0x01 } with db := 0x40 }
    read8 0x4016 s = (0x41, { s with db := 0x41 }) := by
  decide +kernel

/-- M10: no dummy read: one read of port 2. -/
theorem test_M10 :
    stepGives [0xBD, 0x01, 0x20] { start with x := 0x01, ppu := { start.ppu with vblank := true, w := true } } (fun t =>
      t.a == 0x80 && !t.ppu.vblank && !t.ppu.w && t.cyc == 4) := by
  decide +kernel

/-! ## Interrupts (95_test_vectors.md 2.8) -/

def vectors : State :=
  place 0xFFFE [0x00, 0x90] (place 0xFFFA [0x00, 0x91] { start with pc := 0x8123, p := flags 0 0 0 0 0 1 })

def irqState : State := { vectors with apu := { start.apu with frameIrq := true } }
def nmiState : State := { vectors with p := flags 1 0 0 0 0 1, nmiPending := true }

theorem test_I1 :
    let t := arbiter irqState
    memByte t 0x01FC = some 0x81 ∧ memByte t 0x01FB = some 0x23 ∧ memByte t 0x01FA = some 0x21 ∧ t.sp = 0xFA ∧
      t.p = flags 0 0 0 1 0 1 ∧ t.pc = 0x9000 ∧ t.cyc = 7 ∧ irqLine t = true := by
  decide +kernel

theorem test_I2 :
    let t := arbiter nmiState
    memByte t 0x01FA = some 0xA1 ∧ t.sp = 0xFA ∧ t.p = flags 1 0 0 0 0 1 ∧ t.pc = 0x9100 ∧ t.nmiPending = false ∧
      t.cyc = 7 := by
  decide +kernel

theorem test_I2b :
    (arbiter { nmiState with params := { Params.default with nmiSetsI := true } }).p = flags 1 0 0 1 0 1 := by
  decide +kernel

theorem test_I3 :
    let s := { irqState with p := flags 0 0 0 1 0 0 }
    arbiter s = s := by
  decide +kernel

/-- I4: the NMI goes first. -/
theorem test_I4 : (arbiter { irqState with nmiPending := true }).pc = 0x9100 := by decide +kernel

theorem test_I5 :
    let t := arbiter { irqState with params := mos }
    memByte t 0x01FD = some 0x81 ∧ memByte t 0x01FC = some 0x23 ∧ memByte t 0x01FB = some 0x21 ∧ t.sp = 0xFA := by
  decide +kernel

theorem test_I6 :
    let t := arbiter { irqState with sp := 0x01, p := flags 0 0 0 0 0 0 }
    memByte t 0x0100 = some 0x81 ∧ memByte t 0x01FF = some 0x23 ∧ memByte t 0x01FE = some 0x20 ∧ t.sp = 0xFE := by
  decide +kernel

/-- S7: BRK pushes the image with the break bit and sets I. -/
theorem test_S7_BRK :
    stepGives [0x00, 0xEA] (place 0xFFFE [0x00, 0x90] { start with p := flags 0 0 0 0 0 1 }) (fun t =>
      t.sp == 0xFA && memByte t 0x01FC == some 0x80 && memByte t 0x01FB == some 0x02 && memByte t 0x01FA == some 0x31 &&
        t.pc == 0x9000 && t.p == flags 0 0 0 1 0 1 && t.cyc == 7) := by
  decide +kernel

/-! ## The picture unit (95_test_vectors.md 2.9) -/

def ppuState (f : Ppu → Ppu) : State := { start with ppu := f start.ppu }

/-- V3: the read in the race window sees no vblank, and neither the flag nor the NMI comes. -/
theorem test_V3 :
    stepGives [0xAD, 0x02, 0x20]
      { ppuState (fun p => { p with ctrl := 0x80, scanline := 241, dot := 1, ppuDots := 82182 }) with
        cyc := 27394, apu := { start.apu with apuCyc := 27394 } }
      (fun t => t.a == 0 && !t.ppu.vblank && !t.nmiPending && t.pc == 0x8003) := by
  decide +kernel

theorem test_V4 :
    let r := read8 0x2002 (ppuState fun p => { p with vblank := true, ioLatch := 0x1F })
    r.1 = 0x9F ∧ (read8 0x2002 r.2).1 = 0x1F := by
  decide +kernel

theorem test_V5 :
    (write8 0x2005 0x5E (write8 0x2005 0x7D start)).ppu = { start.ppu with x := 5, t := 0x616F, ioLatch := 0x5E } := by
  decide +kernel

theorem test_V6 :
    (write8 0x2006 0x08 (write8 0x2006 0x21 start)).ppu =
      { start.ppu with t := 0x2108, v := 0x2108, ioLatch := 0x08 } := by
  decide +kernel

theorem test_V7 :
    let p := (write8 0x2006 0x08 (read8 0x2002 (write8 0x2006 0x21 start)).2).ppu
    p.t = 0x0800 ∧ p.v = 0 ∧ p.w = true := by
  decide +kernel

theorem test_V8 :
    let r := read8 0x2007 (ppuState fun p => { p with v := 0x2108, readBuffer := 0xAA, vram := [(0x108, 0x55)] })
    r.1 = 0xAA ∧ (read8 0x2007 r.2).1 = 0x55 ∧ (read8 0x2007 r.2).2.ppu.v = 0x210A := by
  decide +kernel

theorem test_V9 : (write8 0x2007 0 (ppuState fun p => { p with ctrl := 0x04, v := 0x2000 })).ppu.v = 0x2020 := by
  decide +kernel

theorem test_V10 :
    let s := write8 0x2007 0x2C (ppuState fun p => { p with v := 0x3F10 })
    s.ppu.palette.read .palette 0 = 0x2C ∧
      (read8 0x2007 { s with ppu := { s.ppu with v := 0x3F00, ioLatch := 0xC0 } }).1 = 0xEC := by
  decide +kernel

theorem test_V11 :
    let s := ppuWrite 0x2005 0x11 (ppuState fun p => { p with vram := [(1029, 0x77)] })
    (ppuRead 0x2405 s).1 = 0x11 ∧ (ppuRead 0x2805 s).1 = 0x77 ∧ (ppuRead 0x3005 s).1 = 0x11 := by
  decide +kernel

theorem test_V12 :
    let s := ppuWrite 0x2005 0x11
      { ppuState (fun p => { p with vram := [(1029, 0x77)] }) with cart := { start.cart with mirroring := .vertical } }
    (ppuRead 0x2805 s).1 = 0x11 ∧ (ppuRead 0x2405 s).1 = 0x77 := by
  decide +kernel

theorem test_V13 :
    let p := (write8 0x2004 0xFF (ppuState fun p => { p with oamAddr := 2 })).ppu
    p.oam.read .oam 2 = 0xE3 ∧ p.oamAddr = 3 := by
  decide +kernel

theorem test_V14 : nameAddr 0x2108 = 0x2108 ∧ attrAddr 0x2108 = 0x23D2 ∧ attrShift 0x2108 = 0 := by decide

/-- V15, V16: the first column of a sprite whose pixel and the background's are opaque; not with the sprite layer off,
not at column 255, not in a clipped column. -/
def hitPpu (mask x : Byte) : Ppu :=
  { start.ppu with
    mask := mask
    bgLo := 0x8000
    sprZeroOnLine := true
    sprCount := 1
    sprites := ⟨0x80, 0x00, 0x00, x⟩ :: List.replicate 7 ⟨0, 0, 0, 0⟩ }

theorem test_V15_V16 :
    ((hitPpu 0x1E 0x20).pixel .oamIndex 17 0x20).sprite0Hit = true ∧
      ((hitPpu 0x0E 0x20).pixel .oamIndex 17 0x20).sprite0Hit = false ∧
      ((hitPpu 0x1E 0xFF).pixel .oamIndex 17 0xFF).sprite0Hit = false ∧
      ((hitPpu 0x1C 0x07).pixel .oamIndex 17 0x07).sprite0Hit = false := by
  decide +kernel

/-- Nine sprites at Y = 0x30, the rest off the screen. -/
def nineSprites : State :=
  ppuState fun p => { p with
    oam := (List.range 64).foldl (fun m k => m.write .oam (4 * k) (if k < 9 then 0x30 else 0xFF)) [] }

theorem test_V17 :
    let p := (spritesForNextLine 48 nineSprites).ppu
    p.sprCount = 8 ∧ p.spriteOverflow = true ∧ (spritesForNextLine 47 nineSprites).ppu.spriteOverflow = false := by
  decide +kernel

theorem test_V18 :
    let p : Ppu := { start.ppu with mask := 0xA1, palette := [(0, 0x2C)] }
    (p.pixel .oamIndex 0 0).framebuffer = [(0, 0x160)] := by
  decide +kernel

/-! ## The audio unit (95_test_vectors.md 2.10) -/

theorem test_Q1 :
    stepGives [0xAD, 0x15, 0x40]
      { start with apu := { start.apu with frameIrq := true, pulse1 := { start.apu.pulse1 with length := 5 } } }
      (fun t => t.a == 0x41 && !t.apu.frameIrq) := by
  decide +kernel

theorem test_Q2_Q3 :
    (write8 0x4003 0x08 start).apu.pulse1.length = 0 ∧
      (write8 0x4003 0x08 (write8 0x4015 0x01 start)).apu.pulse1.length = 254 := by
  decide +kernel

theorem test_Q4 :
    let u := (write8 0x4017 0x80 (write8 0x4003 0x08 (write8 0x4015 0x01 start))).apu
    u.fsMode = true ∧ u.fsCycle = 0 ∧ u.pulse1.length = 253 ∧ u.pulse1.env.decay = 15 := by
  decide +kernel

theorem test_Q5 :
    let u : Apu := { start.apu with fsCycle := 29828 }
    u.sequencerStep.frameIrq = true ∧ { u with fsCycle := 29827 }.sequencerStep.frameIrq = false ∧
      u.sequencerStep.sequencerStep.fsCycle = 0 := by
  decide +kernel

theorem test_Q6 :
    let p : Pulse := { Pulse.reset with timerPeriod := 0x100, sweepShift := 1 }
    p.sweepTarget true = 0x180 ∧ { p with sweepNeg := true }.sweepTarget true = 0x7F ∧
      { p with sweepNeg := true }.sweepTarget false = 0x80 := by
  decide

def loudPulse : Pulse :=
  { Pulse.reset with duty := 2, seq := 1, length := 1, env := { Envelope.reset with constVol := true, vol := 9 } }

theorem test_Q7_Q8 :
    { loudPulse with timerPeriod := 0x007 }.out true = 0 ∧ { loudPulse with timerPeriod := 0x7FF }.out true = 0 ∧
      { loudPulse with timerPeriod := 0x0FD }.out true = 9 := by
  decide

theorem test_Q9_Q10 :
    lfsrClock false 0x0001 = 0x4000 ∧ lfsrClock false 0x4000 = 0x2000 ∧ lfsrClock true 0x0001 = 0x4000 := by decide

theorem test_Q11 :
    let e : Nat → Envelope := fun n => Nat.repeat Envelope.clock n { Envelope.reset with vol := 3, start := true }
    (e 1).decay = 15 ∧ (e 1).div = 3 ∧ (e 4).decay = 15 ∧ (e 5).decay = 14 ∧ (e 9).decay = 13 := by
  decide

theorem test_Q12 :
    let d := (write8 0x4015 0x10 (write8 0x4013 0x02 (write8 0x4012 0x01 start))).apu.dmc
    d.curAddr = 0xC040 ∧ d.bytesLeft = 33 := by
  decide +kernel

theorem test_Q13 : start.apu.sample.triangle = 15 := by decide

theorem test_Q14 :
    ((List.range 8).map fun k => { loudPulse with timerPeriod := 0x0FD, seq := BitVec.ofNat 3 k }.out true) =
      [0, 9, 9, 9, 9, 0, 0, 0] := by
  decide

/-! ## The step (95_test_vectors.md 2.11) -/

theorem test_T1 :
    stepGives [0xA9, 0x42] start (fun t =>
      t.cyc == 2 && t.ppu.ppuDots == 6 && t.ppu.scanline == 0 && t.ppu.dot == 6 && t.apu.apuCyc == 2 &&
        !t.frameCompleted && t.samples.length == 2) := by
  decide +kernel

/-- T2: the entry's cycles are the next step's dots. -/
theorem test_T2 :
    stepGives [0xEA] { start with nmiPending := true } (fun t => t.cyc == 9 && t.ppu.ppuDots == 6) := by
  decide +kernel

/-- T4: the frame event. -/
theorem test_T4 :
    stepGives [0xEA]
      { ppuState (fun p => { p with scanline := 239, dot := 339, ppuDots := 81838 }) with
        cyc := 27279, apu := { start.apu with apuCyc := 27279 } }
      (fun t => t.frameCompleted && t.ppu.scanline == 240) := by
  decide +kernel

/-! ## Witnesses: a state and operands that meet each statement's hypotheses, every clause at the ends of its range -/

/-- Stores and read-modify-writes, the three clauses on memory: an address in RAM with canonical RAM, one at each end of
what lies outside it, the fixed mapping, and a cell that is not the one stored to. -/
theorem witness_MemoryAfterStore :
    start.ram.rising = true ∧ start.cart.fixed = true ∧
      ((Mode.abs 0xFF 0x1F).resolve start).ea = 0x1FFF ∧ ((Mode.abs 0x00 0x20).resolve start).ea = 0x2000 ∧
      ((Mode.abs 0x1F 0x40).resolve start).ea = 0x401F ∧ ((Mode.abs 0xFF 0xFF).resolve start).ea = 0xFFFF ∧
      ¬Claims.SameCell 0x0011 0x0010 ∧ ¬Claims.SameCell 0x2010 0x0010 := by
  unfold Claims.SameCell
  decide

/-- A store of 0x4014 pays for the DMA, a store of the next address does not; a page cross is paid where marked. -/
theorem witness_StoreAndReadCosts :
    ((Mode.abs 0x14 0x40).resolve start).ea = 0x4014 ∧ ((Mode.abs 0x15 0x40).resolve start).ea ≠ 0x4014 ∧
      ((Mode.abx 0xFF 0x80).resolve { start with x := 0x01 }).crossed = true ∧
      ((Mode.abx 0xFE 0x80).resolve { start with x := 0x01 }).crossed = false := by
  decide

/-- Calls, pushes and interrupt entries: canonical RAM, and a cell outside the slots. -/
theorem witness_Pushed :
    start.ram.rising = true ∧ ∀ k, k < 3 → ¬Claims.SameCell 0x0010 (Claims.pushSlot start k) := by
  unfold Claims.SameCell
  decide

theorem witness_BranchesFollowTheirFlag :
    (flags 0 0 0 1 0 0).c = false ∧ (flags 0 0 0 1 0 1).c = true ∧
      (BitVec.ofInt 16 (0x80F2 + 0x20) : Addr).toNat / 256 ≠ 0x80F2 / 256 := by
  decide

theorem witness_UndecodableByteLatchesTheFault :
    start.fault = none ∧ (0x02 : Byte) ∈ undecodableBytes ∧ (0xF2 : Byte) ∈ undecodableBytes ∧
      { start with fault := some (.mapperBounds 0x8000) }.fault = some (.mapperBounds 0x8000) := by
  decide

theorem witness_DecodeOfEncodeIsTheInstruction :
    Instr.brk.wellFormed = true ∧ (Instr.undecodable 0xF2).wellFormed = true ∧
      (Instr.iscAbx 0xFF 0xFF).wellFormed = true := by
  decide

theorem witness_EncodeOfDecodeIsTheBytes :
    decode [0xA9, 0x42, 0x60] = .ok (.ldaImm 0x42, [0x60]) ∧ ([0xA9, 0x42] : List Byte).head? = [0xA9, 0x42, 0x60].head? :=
  ⟨rfl, rfl⟩

theorem witness_InterruptThenReturnResumes : start.ram.rising = true := by decide

/-- PC stands at PPU port 2: the status byte is the opcode. With `io_latch` 0x18 and vblank set it is `TYA`. -/
def atStatusPort (latch : Byte) : State :=
  { start with pc := 0x2002, ppu := { start.ppu with vblank := true, w := true, ioLatch := latch } }

/-- An instruction fetched from a device, and one in memory across the end of the address space. -/
theorem witness_StepRunsTheDecodedInstruction :
    (let s := atStatusPort 0x18
     let f := Claims.readBytes s.pc Instr.tya.length { s with frameCompleted := false, samples := [] }
     s.fault = none ∧ decode f.1 = .ok (.tya, []) ∧ (∀ op, Instr.tya ≠ .undecodable op) ∧ f.2.fault = none) ∧
    let s := place 0xFFFF [0x8D, 0x00, 0x02] { start with pc := 0xFFFF }
    s.fault = none ∧ decode [0x8D, 0x00, 0x02] = .ok (.staAbs 0x00 0x02, []) ∧
      ∀ k, k < 3 → memByte s (s.pc + BitVec.ofNat 16 k) = ([0x8D, 0x00, 0x02] : List Byte)[k]? := by
  refine ⟨⟨rfl, rfl, nofun, rfl⟩, rfl, rfl, ?_⟩
  decide +kernel

theorem witness_StepPhasesInOrder :
    let s := atStatusPort 0x18
    let f := Claims.readBytes s.pc Instr.tya.length { s with frameCompleted := false, samples := [] }
    s.cart.fixed = true ∧ s.fault = none ∧ decode f.1 = .ok (.tya, []) ∧ ∀ op, Instr.tya ≠ .undecodable op :=
  ⟨rfl, rfl, rfl, nofun⟩

/-- An undecodable byte in memory, and one that PPU port 2 answers: there vblank and the write toggle stay (R523, R802). -/
theorem witness_UndecodableByteEndsTheStep :
    (let s := place 0x8000 [0xB2] start
     s.fault = none ∧ (read8 s.pc s).2.fault = none ∧ (read8 s.pc s).1 ∈ undecodableBytes) ∧
    let s := atStatusPort 0x12
    s.fault = none ∧ (read8 s.pc s).2.fault = none ∧ (read8 s.pc s).1 = 0x92 ∧ 0x92 ∈ undecodableBytes ∧
      stepGives [] s (fun t => t == { s with db := 0x92, fault := some (.undecodableOpcode 0x2002 0x92) }) = true := by
  decide +kernel

/-- A cartridge without a program bank: every translation leaves the memory. -/
def noPrg : State := { start with cart := { start.cart with prgBanks := 0 } }

/-- The opcode, an operand byte (the opcode 0xA9 is what open bus at 0x7FFF answers), and the instruction's own read
leave the memory. -/
theorem witness_BoundsFaultStopsTheStep :
    (noPrg.fault = none ∧ 0x4020 ≤ noPrg.pc.toNat ∧ translatePrg noPrg noPrg.pc = some (.prgRom, 0) ∧
      prgSize noPrg .prgRom ≤ 0 ∧ stopsWith noPrg (.mapperBounds 0x8000) = true) ∧
    (let s := { noPrg with pc := 0x7FFF, db := 0xA9 }
     let f := Claims.readBytes s.pc 2 { s with frameCompleted := false, samples := [] }
     reads f.1 (.ldaImm 0xA9) = true ∧ f.2.fault = some (.mapperBounds 0x8000) ∧
       stopsWith s (.mapperBounds 0x8000) = true) ∧
    let s := place 0x0000 [0xAD, 0x00, 0x80] { noPrg with pc := 0x0000 }
    let f := Claims.readBytes s.pc 3 { s with frameCompleted := false, samples := [] }
    reads f.1 (.ldaAbs 0x00 0x80) = true ∧ f.2.fault = none ∧
      (match exec (.ldaAbs 0x00 0x80) f.2 with
        | .next t => t.fault == some (.mapperBounds 0x8000)
        | _ => false) = true ∧
      stopsWith s (.mapperBounds 0x8000) = true := by
  decide +kernel

theorem witness_CatchUpReachesTheClock :
    let s := { start with cyc := 2 }
    s.ppu.ppuDots ≤ 3 * s.cyc ∧ s.apu.apuCyc ≤ s.cyc := by
  decide

/-- The cycles `i` takes from `start` with the clock at `c`. -/
def cyclesOf (i : Instr) (c : Nat) : Option Nat :=
  match exec i { start with cyc := c } with
  | .next t => some (t.cyc - c)
  | _ => none

/-- No DMA, a DMA on either parity of the clock, a store just beside 0x4014, and the undecodable instruction. -/
theorem witness_InstructionCostIsBounded :
    cyclesOf .nop 0 = some 2 ∧ cyclesOf (.aslAbx 0x00 0x02) 0 = some 7 ∧
      cyclesOf (.staAbs 0x14 0x40) 0 = some (4 + 513) ∧ cyclesOf (.staAbs 0x14 0x40) 1 = some (4 + 514) ∧
      cyclesOf (.staAbs 0x15 0x40) 0 = some 4 ∧ cyclesOf (.undecodable 0x02) 0 = some 0 ∧
      ∀ op, Instr.nop ≠ .undecodable op := by
  refine ⟨?_, ?_, ?_, ?_, ?_, ?_, nofun⟩ <;> decide +kernel

/-- The invariant and safety hold at the start state, which steps. -/
theorem start_inv : start.Inv where
  ram := rfl
  prgRam := rfl
  chrRam := rfl
  ppu := ⟨by decide, by decide, by decide, rfl, rfl, rfl, rfl, rfl, rfl⟩
  apu := ⟨fun _ => rfl, fun _ => rfl, fun _ => rfl, fun _ => rfl, by decide, by decide, by decide, by decide⟩
  dots := by decide
  samples := by decide

/-- The start state's program byte 0xFF is `ISC abx`: it answers a next state. -/
theorem witness_StepKeepsTheInvariant : start.Inv ∧ stepGives [] start (fun t => t.pc == 0x8003) = true :=
  ⟨start_inv, by decide +kernel⟩

/-- A run of two steps with different buttons; the port reads the masks of its step (R10 (4), R235). The same run stops
at an undecodable byte. -/
theorem witness_SafeRunsGoOn :
    start.Safe ∧
      ((runs [(0x01, 0x02), (0x80, 0x00)] (place 0x8000 [0xEA, 0xEA] start)).map fun t =>
        (t.buttons0, t.buttons1, t.fault)) = some (0x80, 0x00, none) ∧
      ((runs [(0x01, 0x02), (0x80, 0x00)] (place 0x8000 [0xEA, 0x02] start)).map fun t =>
        (t.buttons0, t.buttons1, t.fault)) = some (0x80, 0x00, some (.undecodableOpcode 0x8001 0x02)) := by
  refine ⟨⟨rfl, start_inv, rfl⟩, ?_⟩
  decide +kernel

theorem witness_StepNeverChangesInputsOrReadOnlyParts :
    start.cart.fixed = true ∧ stepGives [] start (fun _ => true) = true := by
  decide +kernel

theorem witness_WorkRamIsMirrored :
    (0x0000 : Addr).toNat < 0x2000 ∧ (0x1FFF : Addr).toNat < 0x2000 ∧ start.ram.rising = true ∧
      (0x0FFF : Addr).toNat % 2048 = (0x1FFF : Addr).toNat % 2048 := by
  decide

theorem witness_OpenBusReadsReturnTheLatch :
    (0x4000 ≤ (0x4000 : Addr).toNat ∧ (0x4000 : Addr).toNat ≤ 0x4014) ∧
      (0x4000 ≤ (0x4014 : Addr).toNat ∧ (0x4014 : Addr).toNat ≤ 0x4014) ∧
      (0x4018 ≤ (0x4018 : Addr).toNat ∧ (0x4018 : Addr).toNat < 0x4020) ∧
      0x4018 ≤ (0x401F : Addr).toNat ∧ (0x401F : Addr).toNat < 0x4020 ∧ route 0x4014 = .dma ∧ route 0x401F = .nothing := by
  decide

theorem witness_FixedMappingWindow :
    start.cart.fixed = true ∧ route 0x4020 = .cartridge ∧ (0x7FFF : Addr).toNat < 0x8000 ∧
      0x8000 ≤ (0x8000 : Addr).toNat ∧ { start.cart with prgBanks := 1 }.fixed = true := by
  decide

theorem witness_PushAndPullFollowTheStackOrder :
    start.params.stackOrder = .docPredecrement ∧ mos.stackOrder = .mosPostdecrement ∧
      256 + ((0x00 : Byte).toNat + 255) % 256 = 0x01FF ∧ 256 + ((0xFF : Byte).toNat + 1) % 256 = 0x0100 := by
  decide

/-- A page of work RAM answers at all its addresses. -/
theorem witness_SpriteDmaCopiesAPage :
    start.ppu.oam.rising = true ∧
      ∀ i, i < 256 → memByte start (BitVec.ofNat 16 (256 * (0x02 : Byte).toNat + i)) = some 0 := by
  refine ⟨rfl, fun i hi => ?_⟩
  have h : (BitVec.ofNat 16 (256 * (0x02 : Byte).toNat + i)).toNat < 0x2000 := by
    rw [BitVec.toNat_ofNat]
    have : (0x02 : Byte).toNat = 2 := rfl
    omega
  simp only [memByte, route, h, if_true]
  rfl

theorem witness_ControllersShiftOneButtonPerRead :
    start.joyStrobe = false ∧ { start with joyStrobe := true }.joyStrobe = true ∧ 7 < 8 ∧ ¬8 < 8 := by
  decide

theorem witness_PowerOnState : Cartridge.blank.fixed = true ∧ { Cartridge.blank with prgBanks := 1 }.fixed = true := by
  decide

theorem witness_ArbiterDeliversNmiBeforeIrq :
    nmiState.nmiPending = true ∧ (irqState.nmiPending = false ∧ irqState.apu.frameIrq = true ∧ irqState.p.i = false) ∧
      (vectors.nmiPending = false ∧ vectors.apu.frameIrq = false ∧ vectors.apu.dmcIrq = false ∧
        mapperIrq vectors = false) ∧ start.nmiPending = false ∧ start.p.i = true := by
  decide +kernel

/-- Each port at its first and at its last address, with the first and the second write of a pair. -/
theorem witness_ports :
    (∀ n, n < 8 → Claims.PortAt n (BitVec.ofNat 16 (0x2000 + n)) ∧ Claims.PortAt n (BitVec.ofNat 16 (0x3FF8 + n))) ∧
      start.ppu.w = false ∧ (ppuState fun p => { p with w := true }).ppu.w = true ∧ start.ppu.oam.rising = true := by
  unfold Claims.PortAt
  decide

theorem witness_DataPortReadsThroughTheBuffer :
    (BitVec.ofNat 14 (0x3EFF : BitVec 15).toNat : PpuAddr).toNat < 0x3F00 ∧
      0x3F00 ≤ (BitVec.ofNat 14 (0x3F00 : BitVec 15).toNat : PpuAddr).toNat ∧
      0x3F00 ≤ (BitVec.ofNat 14 (0x7FFF : BitVec 15).toNat : PpuAddr).toNat := by
  decide

theorem witness_PpuMemoryMap :
    (0x2000 ≤ (0x2000 : PpuAddr).toNat ∧ (0x3EFF : PpuAddr).toNat < 0x3F00) ∧ 0x3F00 ≤ (0x3F00 : PpuAddr).toNat ∧
      0x3F00 ≤ (0x3FFF : PpuAddr).toNat ∧ start.ppu.vram.rising = true ∧ start.ppu.palette.rising = true ∧
      (start.cart.fixed = true ∧ start.cart.chrBanks = 0 ∧ (0x0000 : PpuAddr).toNat < 0x2000 ∧
        (0x1FFF : PpuAddr).toNat < 0x2000 ∧ start.mapper.chrRam.rising = true) ∧
      { start.cart with chrBanks := 1 }.fixed = true := by
  decide

def atDot (sl d : Nat) : State := ppuState fun p => { p with scanline := sl, dot := d }

theorem witness_VblankFlagAndNmi :
    ((atDot 241 1).ppu.scanline = 241 ∧ (atDot 241 1).ppu.dot = 1) ∧
      (atDot 261 1).ppu.scanline = 261 ∧ (atDot 261 1).ppu.dot = 1 := by
  decide

theorem witness_VblankChangesOnlyAtItsDots :
    ((atDot 241 2).ppu.scanline, (atDot 241 2).ppu.dot) ≠ (241, 1) ∧
      ((atDot 241 2).ppu.scanline, (atDot 241 2).ppu.dot) ≠ (261, 1) ∧
      mapperIrq
        { start with
          cart := { start.cart with mapperId := 4 }
          mapper := { start.mapper with variant := { start.mapper.variant with irqPending := true } } } = true ∧
      (0x401F : Addr).toNat < 0x4020 ∧ start.cart.fixed = true := by
  decide

/-- A short frame and a long one; the last dot of each. -/
theorem witness_FrameLengthAndPosition :
    (start.ppu.scanline = 0 ∧ start.ppu.dot = 0) ∧ start.ppu.frameParity = false ∧
      start.params.skipNeedsRendering = false ∧ (ppuState fun p => { p with frameParity := true }).ppu.frameParity = true ∧
      89340 / 341 = 261 ∧ 89340 % 341 = 339 ∧ 89341 / 341 = 261 ∧ 89341 % 341 = 340 := by
  decide

theorem witness_SpriteEvaluationKeepsTheFirstEight : 0 ≤ 239 ∧ 239 ≤ 239 ∧ (261 : Nat) = 261 := by decide

theorem witness_PriorityMultiplexer :
    (0 < 4 ∧ 3 < 4) ∧ (0x00 : Byte).toNat / 32 % 2 = 0 ∧ (0x20 : Byte).toNat / 32 % 2 = 1 ∧
      muxIndex 0 0 0 0x00 = 0 ∧ muxIndex 3 3 3 0x00 = 0x13 ∧ muxIndex 3 3 3 0x20 = 0x0F := by
  decide

theorem witness_SpriteZeroHitConditions :
    ((hitPpu 0x1E 0x00).sprite0Hit = false ∧ ((hitPpu 0x1E 0x00).pixel .oamIndex 17 0x00).sprite0Hit = true) ∧
      start.ppu.rendering = false ∧ start.ppu.framebuffer.rising = true := by
  decide +kernel

theorem witness_FrameSequencerPeriods :
    start.apu.fsCycle = 0 ∧ start.apu.fsMode = false ∧ { start.apu with fsMode := true }.fsMode = true ∧
      (29829 : Nat) ≤ 29830 := by
  decide

theorem witness_EnvelopeClocking :
    let e := Envelope.reset
    { e with start := true }.start = true ∧
      (e.start = false ∧ e.div = 0 ∧ 0 < { e with decay := 1 }.decay.toNat) ∧
      (e.decay = 0 ∧ { e with halt := true }.halt = true) ∧ e.halt = false ∧ { e with div := 1 }.div ≠ 0 := by
  decide

/-- Both ends of what mutes: a period of 7 and one of 8, a target of 0x7FF and one above it. -/
theorem witness_SweepRetunesOnlyInRange :
    { loudPulse with timerPeriod := 7 }.sweepMute true = true ∧ { loudPulse with timerPeriod := 8 }.sweepMute true = false ∧
      { loudPulse with timerPeriod := 0x555, sweepShift := 1 }.sweepMute true = false ∧
      { loudPulse with timerPeriod := 0x556, sweepShift := 1 }.sweepMute true = true := by
  decide

theorem witness_SampleLevelStaysInRange :
    let d := Dmc.reset
    d.bitsLeft ≠ 1 ∧ ({ d with bitsLeft := 1, bufferFull := true }.bitsLeft = 1 ∧
      { d with bitsLeft := 1, bufferFull := true }.bufferFull = true) ∧ d.bufferFull = false := by
  decide

theorem witness_SampleFetchReadsTheBus :
    let s := { start with apu := { start.apu with dmc := { start.apu.dmc with curAddr := 0xFFFF, bytesLeft := 1 } } }
    0x8000 ≤ s.apu.dmc.curAddr.toNat ∧ memByte s s.apu.dmc.curAddr = some 0xFF := by
  decide +kernel

end Sys2Proof.Tests
end

section
/-! PROOFS. What no step changes (O32): the cartridge, the parameters, the buttons, with the fixed mapping the Mapper's
state but its graphics RAM; and that the clock never falls. -/

namespace Sys2Proof.Machine

/-- What every part of a step leaves alone between two states (R8, R9, R115, R235, R247). -/
structure StepFrame (s t : State) : Prop where
  cart : t.cart = s.cart
  params : t.params = s.params
  buttons0 : t.buttons0 = s.buttons0
  buttons1 : t.buttons1 = s.buttons1
  cyc : s.cyc ≤ t.cyc
  mapper : s.cart.fixed = true → t.mapper.variant = s.mapper.variant ∧ t.mapper.prgRam = s.mapper.prgRam

namespace StepFrame

theorem refl (s : State) : StepFrame s s := ⟨rfl, rfl, rfl, rfl, Nat.le_refl _, fun _ => ⟨rfl, rfl⟩⟩

theorem trans {s t u : State} (h : StepFrame s t) (k : StepFrame t u) : StepFrame s u where
  cart := k.cart.trans h.cart
  params := k.params.trans h.params
  buttons0 := k.buttons0.trans h.buttons0
  buttons1 := k.buttons1.trans h.buttons1
  cyc := Nat.le_trans h.cyc k.cyc
  mapper hf := by
    obtain ⟨hv, hr⟩ := h.mapper hf
    obtain ⟨kv, kr⟩ := k.mapper (by rw [h.cart]; exact hf)
    exact ⟨kv.trans hv, kr.trans hr⟩

/-! ## The bus accesses and the phases of a step -/

theorem read8 (a : Addr) (s : State) : StepFrame s (read8 a s).2 :=
  ⟨read8_cart a s, read8_params a s, read8_buttons0 a s, read8_buttons1 a s, Nat.le_of_eq (read8_cyc a s).symm,
    fun _ => by rw [read8_mapper]; exact ⟨rfl, rfl⟩⟩

theorem write8 (a : Addr) (v : Byte) (s : State) : StepFrame s (write8 a v s) where
  cart := write8_cart a v s
  params := write8_params a v s
  buttons0 := write8_buttons0 a v s
  buttons1 := write8_buttons1 a v s
  cyc := Nat.le_of_eq (write8_cyc a v s).symm
  mapper hf := by
    by_cases hc : route a = .cartridge
    · rw [write8_cartridge_fixed v s hc hf]
      exact ⟨rfl, rfl⟩
    · obtain ⟨cr, hm⟩ := write8_mapper v s hc
      rw [hm]
      exact ⟨rfl, rfl⟩

theorem ppuCatchUp (s : State) : StepFrame s (ppuCatchUp s) := by
  obtain ⟨f, nmi, p, ms, fc, e, _, _, hf, _⟩ := ppuCatchUp_cases s
  rw [e]
  exact ⟨rfl, rfl, rfl, rfl, Nat.le_refl _, fun hc => ⟨(hf hc).2, rfl⟩⟩

theorem apuCatchUp (s : State) : StepFrame s (apuCatchUp s) := by
  obtain ⟨f, db, v, rb, io, vb, w, vs, j0, j1, cyc, apu, smp, e, hcyc, _⟩ := apuCatchUp_cases s
  rw [e]
  exact ⟨rfl, rfl, rfl, rfl, hcyc, fun _ => ⟨rfl, rfl⟩⟩

/-- Everything an instruction is made of keeps the frame of a fixed state `s`. -/
theorem closed (s : State) : Closed (StepFrame s) where
  setA _ _ h := { h with }
  setX _ _ h := { h with }
  setY _ _ h := { h with }
  setSp _ _ h := { h with }
  setPc _ _ h := { h with }
  setP _ _ h := { h with }
  charge n _ h := { h with cyc := Nat.le_trans h.cyc (Nat.le_add_right _ n) }
  read8 a t h := h.trans (read8 a t)
  write8 a v t h := h.trans (write8 a v t)
  latched _ _ h := { h with }

theorem arbiter (s : State) : StepFrame s (arbiter s) := by
  have entry : ∀ pc setI vec u, StepFrame s u →
      StepFrame s ((enterInterrupt pc false setI vec u).setCyc ((enterInterrupt pc false setI vec u).cyc + 7)) :=
    fun pc setI vec u h => (closed s).charge 7 _ ((closed s).enterInterrupt pc false setI vec h)
  unfold Machine.arbiter
  split
  · exact entry _ _ _ _ { refl s with }
  · split
    · exact entry _ _ _ _ (refl s)
    · exact refl s

/-- A step keeps its frame, whatever it runs (R830). -/
theorem step {s t : State} (h : step s = .next t) : StepFrame s t :=
  (closed s).step (fun _ _ h => { h with }) (fun _ h => { h with }) (fun u h => h.trans (ppuCatchUp u))
    (fun u h => h.trans (apuCatchUp u)) (fun u h => h.trans (arbiter u)) (refl s) h

end StepFrame

/-- Settles O32: every part of a step keeps the frame `StepFrame`. -/
theorem stepNeverChangesInputsOrReadOnlyParts : Obligations.StepNeverChangesInputsOrReadOnlyParts := by
  intro s t h
  obtain ⟨hcart, hparams, hb0, hb1, hcyc, hmapper⟩ := StepFrame.step h
  exact ⟨hcart, hparams, hb0, hb1, hcyc, hmapper⟩

end Sys2Proof.Machine
end

section
/-! PROOFS. Progress and safety with the fixed mapping (O31): every step from a safe state answers a next state, safe again
or with an undecodable byte latched; so does every run. -/

namespace Sys2Proof.Machine

/-! ## What a fetch and the phases after the instruction answer -/

/-- A fetch gives the undecodable instruction only for one of the bytes of R314, and it keeps of the read what
`onlyLatched` keeps (R523, R802). -/
theorem fetch_eq_undecodable {s : State} {op : Byte} (h : (fetch s).1 = .undecodable op) :
    op ∈ undecodableBytes ∧ (fetch s).2 = onlyLatched s (read8 s.pc s).2 := by
  have hfits := opcodeFormat_fits (read8 s.pc s).1
  cases hf : opcodeFormat (read8 s.pc s).1 with
  | one i =>
    rw [hf] at hfits
    obtain ⟨henc, -, hmem⟩ := hfits
    obtain rfl : i = .undecodable op := by simpa only [fetch, hf] using h
    obtain rfl : op = (read8 s.pc s).1 := List.head_eq_of_cons_eq henc
    exact ⟨hmem.1 ⟨_, rfl⟩, congrArg Prod.snd (fetch_undecodable hf)⟩
  | two f =>
    rw [hf] at hfits
    obtain ⟨-, -, -, hne⟩ := hfits (read8 (s.pc + 1) (read8 s.pc s).2).1
    simp only [fetch, hf] at h
    exact absurd h (hne op)
  | three f =>
    rw [hf] at hfits
    obtain ⟨-, -, -, hne⟩ := hfits (read8 (s.pc + 1) (read8 s.pc s).2).1
      (read8 (s.pc + 2) (read8 (s.pc + 1) (read8 s.pc s).2).2).1
    simp only [fetch, hf] at h
    exact absurd h (hne op)

theorem unlessFaulted_of_none {s : State} {k : State → Host.Outcome State Fault Refusal} (h : s.fault = none) :
    unlessFaulted s k = k s := by
  simp only [unlessFaulted, h]

/-- An undecodable byte latched by the instruction ends the step with the state the instruction left (R802, R803). -/
theorem finishStep_of_undecodable {s : State} {pc : Addr} {op : Byte}
    (h : s.fault = some (.undecodableOpcode pc op)) : finishStep s = .next s := by
  simp only [finishStep, unlessFaulted, h, stopWith]

/-- With the fixed mapping and no fault latched no later phase stops the step (R246, R247). -/
theorem finishStep_of_sound {s : State} (h : Sound s) :
    finishStep s = .next (arbiter (apuCatchUp (ppuCatchUp s))) := by
  have hp := sound_ppuCatchUp h
  have ha := sound_apuCatchUp hp
  simp only [finishStep, unlessFaulted_of_none h.2, unlessFaulted_of_none hp.2, unlessFaulted_of_none ha.2,
    unlessFaulted_of_none (sound_arbiter ha).2]

/-- Where nothing is latched before the fetch or by it, the step is the instruction fetched and what follows it. -/
theorem step_of_exec {s t : State} (hs : s.fault = none) (hf : (fetch (clearOutputs s)).2.fault = none)
    (ht : exec (fetch (clearOutputs s)).1 (fetch (clearOutputs s)).2 = .next t) : step s = finishStep t := by
  simp only [step, hs, hf, ht]

/-! ## One step -/

/-- Every step keeps the invariant. -/
theorem inv_step {s t : State} (hs : s.Inv) (h : step s = .next t) : t.Inv :=
  inv_closed.step (fun r _ => inv_raise r) (fun _ => inv_clearOutputs) (fun _ => inv_ppuCatchUp)
    (fun _ => inv_apuCatchUp) (fun _ => inv_arbiter) hs h

/-- The step from `s` met an undecodable byte at its PC, which is latched in the state `t` it answered (R802). -/
def StoppedAt (s t : State) : Prop :=
  ∃ op, op ∈ undecodableBytes ∧ t.fault = some (.undecodableOpcode s.pc op)

/-- With the fixed mapping a step answers a next state, with no fault latched or with the undecodable byte at its PC. -/
theorem step_of_sound {s : State} (h : Sound s) :
    ∃ t, step s = .next t ∧ (t.fault = none ∨ StoppedAt s t) := by
  have hf : Sound (fetch (clearOutputs s)).2 := sound_closed.fetch (s := clearOutputs s) h
  by_cases hu : ∃ op, (fetch (clearOutputs s)).1 = .undecodable op
  · obtain ⟨op, hop⟩ := hu
    obtain ⟨hmem, hst⟩ := fetch_eq_undecodable hop
    have hx : exec (fetch (clearOutputs s)).1 (fetch (clearOutputs s)).2 =
        .next (raise (.undecodableOpcode s.pc op) (fetch (clearOutputs s)).2) := by
      rw [hop, hst]; rfl
    have hr : (raise (.undecodableOpcode s.pc op) (fetch (clearOutputs s)).2).fault =
        some (.undecodableOpcode s.pc op) := by
      rw [raise_fault, hf.2]; rfl
    exact ⟨_, (step_of_exec h.2 hf.2 hx).trans (finishStep_of_undecodable hr), .inr ⟨op, hmem, hr⟩⟩
  · obtain ⟨t, hx, ht⟩ := sound_closed.exec (fetch (clearOutputs s)).1 (fun op e => absurd ⟨op, e⟩ hu) hf
    exact ⟨_, (step_of_exec h.2 hf.2 hx).trans (finishStep_of_sound ht),
      .inl (sound_arbiter (sound_apuCatchUp (sound_ppuCatchUp ht))).2⟩

/-- Progress and safety of one machine step, whatever the buttons (R801, R830). -/
theorem machineStep_of_safe (b : Byte × Byte) {s : State} (h : s.Safe) :
    ∃ t, machineStep b s = .next t ∧ (t.buttons0, t.buttons1) = b ∧ (t.Safe ∨ StoppedAt s t) := by
  have hi : ((s.setButtons0 b.1).setButtons1 b.2).Inv := { h.inv with }
  obtain ⟨t, ht, hfault⟩ := step_of_sound (s := (s.setButtons0 b.1).setButtons1 b.2) ⟨h.cart, h.noFault⟩
  have hframe := StepFrame.step ht
  refine ⟨t, ht, Prod.ext hframe.buttons0 hframe.buttons1, hfault.imp_left fun hn => ?_⟩
  exact { cart := (congrArg Cartridge.fixed hframe.cart).trans h.cart, inv := inv_step hi ht, noFault := hn }

/-! ## Runs -/

/-- A run goes on after a step that answers a next state. -/
theorem runs_cons {b : Byte × Byte} {s t : State} (h : machineStep b s = .next t) (bs : List (Byte × Byte)) :
    runs (b :: bs) s = runs bs t := by
  simp only [runs, h]

/-- A run from a safe state goes on to its end in a safe state, or to a step from a safe state that stops. -/
theorem runs_of_safe (bs : List (Byte × Byte)) {s : State} (h : s.Safe) :
    (∃ t, runs bs s = some t ∧ t.Safe) ∨
      ∃ k u t, k < bs.length ∧ runs (bs.take k) s = some u ∧ u.Safe ∧ runs (bs.take (k + 1)) s = some t ∧
        StoppedAt u t := by
  induction bs generalizing s with
  | nil => exact .inl ⟨s, rfl, h⟩
  | cons b bs ih =>
    obtain ⟨t, ht, -, hsafe | hstop⟩ := machineStep_of_safe b h
    · obtain ⟨u, hu, husafe⟩ | ⟨k, u, v, hk, hu, husafe, hv, hstop⟩ := ih hsafe
      · exact .inl ⟨u, (runs_cons ht bs).trans hu, husafe⟩
      · exact .inr ⟨k + 1, u, v, Nat.succ_lt_succ hk, (runs_cons ht _).trans hu, husafe, (runs_cons ht _).trans hv, hstop⟩
    · exact .inr ⟨0, s, t, Nat.succ_pos _, rfl, h, runs_cons ht [], hstop⟩

/-- Settles O31: progress and safety of one step, lifted to runs by induction on the masks. -/
theorem safeRunsGoOn : Obligations.SafeRunsGoOn := by
  refine ⟨fun b _ hs => machineStep_of_safe b hs, fun bs _ hs => (runs_of_safe bs hs).imp_right ?_⟩
  rintro ⟨k, u, t, hk, hu, husafe, ht, op, hop, hfault⟩
  exact ⟨k, u, t, op, hk, hu, husafe, ht, hop, hfault⟩

end Sys2Proof.Machine
end

section
/-! PROOFS. Every step keeps the invariant (O30), the state after reset meets it (O29), and what power-on gives for every
cartridge of the fixed mapping (O39). -/

namespace Sys2Proof.Machine

/-- Settles O30: every bus access, every instruction, both catch-ups and the arbiter keep the invariant, so a step does. -/
theorem stepKeepsTheInvariant : Obligations.StepKeepsTheInvariant :=
  fun _ _ hs h => inv_step hs h

/-! ## The ranges of the two units at reset -/

theorem Ppu.reset_ok : Ppu.reset.Ok where
  scanline := Nat.zero_le 261
  dot := Nat.zero_le 340
  sprCount := Nat.zero_le 8
  sprites := rfl
  vram := rfl
  palette := rfl
  oam := rfl
  secOam := rfl
  framebuffer := rfl

theorem Apu.reset_ok : Apu.reset.Ok where
  pulse1 _ := rfl
  pulse2 _ := rfl
  triangle _ := rfl
  noise _ := rfl
  lfsr := by decide
  bitsLeft := by decide
  reader h := absurd rfl h
  sequencer := by decide

/-- Settles O29: both units start in range, and no memory lists a cell. -/
theorem invariantHoldsAtReset : Obligations.InvariantHoldsAtReset where
  ram := rfl
  prgRam := rfl
  chrRam := rfl
  ppu := Ppu.reset_ok
  apu := Apu.reset_ok
  dots := Nat.zero_le _
  samples := Nat.zero_le _

/-! ## Program memory of the fixed mapping -/

/-- R247: a cartridge of the fixed mapping has one or two program banks. -/
theorem Cartridge.prgBanks_of_fixed {c : Cartridge} (h : c.fixed = true) : c.prgBanks = 1 ∨ c.prgBanks = 2 := by
  simp only [Cartridge.fixed, Bool.and_eq_true, Bool.or_eq_true, beq_iff_eq] at h
  obtain ⟨⟨⟨-, hbanks⟩, -⟩, -⟩ := h
  exact hbanks

/-- With the fixed mapping the upper half of the CPU's addresses is the program memory, repeated (R241, R247). -/
theorem memByte_prg_fixed {s : State} {a : Addr} (hf : s.cart.fixed = true) (ha : 0x8000 ≤ a.toNat) :
    memByte s a = some (s.cart.prg.read .prg ((a.toNat - 0x8000) % (16384 * s.cart.prgBanks))) := by
  have hbanks := Cartridge.prgBanks_of_fixed hf
  have hroute : route a = .cartridge := route_cartridge_iff.2 (by omega)
  have hin : (a.toNat - 0x8000) % (16384 * s.cart.prgBanks) < prgSize s .prgRom :=
    Nat.mod_lt _ (by omega)
  simp only [memByte, hroute, translatePrg, fixedMapping_of_fixed hf, ha, if_true, hin, prgByte]

/-- A word read where memory answers: the low byte at the lower address, and `db` keeps the high one (R16, R212). -/
theorem read16_of_memByte {s : State} {a : Addr} {l h : Byte} (hl : memByte s a = some l)
    (hh : memByte s (a + 1) = some h) : read16 a s = (word h l, s.setDb h) := by
  have hh' : memByte (s.setDb l) (a + 1) = some h := (memByte_congr rfl rfl rfl _).trans hh
  simp only [read16, read8_of_memByte hl, read8_of_memByte hh']
  rfl

/-- Settles O39: the reset vector of a fixed-mapping cartridge lies in its program memory, so the two vector reads change
`db` only. -/
theorem powerOnState : Obligations.PowerOnState := by
  refine ⟨fun cart params initRam initVram initOam initPalette hf => ?_, reset_eq_powerOn, fun _ => rfl, fun _ => rfl,
    fun _ => rfl⟩
  simp only [powerOn]
  rw [read16_of_memByte (memByte_prg_fixed (a := resetVector) hf (by decide))
    (memByte_prg_fixed (a := resetVector + 1) hf (by decide)), word_eq]
  rfl

end Sys2Proof.Machine
end

section
/-! PROOFS. The stack order (O36), and the arbiter with what entering an interrupt does (O40). -/

namespace Sys2Proof.Machine

open Sys2Proof.Claims

/-! ## The stack -/

theorem pageOne_add_one (c : Byte) : pageOne (c + 1) = 256 + (c.toNat + 1) % 256 := by
  rw [pageOne, BitVec.toNat_add]; rfl

theorem pageOne_sub_one (c : Byte) : pageOne (c - 1) = 256 + (c.toNat + 255) % 256 := by
  rw [pageOne, BitVec.toNat_sub, Nat.add_comm c.toNat]; rfl

/-- Settles O36: a push and a pull are one access of page 1, at the cell each order names. -/
theorem pushAndPullFollowTheStackOrder : Obligations.PushAndPullFollowTheStackOrder := by
  intro s v
  refine ⟨fun h => ?_, fun h => ?_⟩
  · have hpush : pushTop s = s.sp - 1 := by simp only [pushTop, h]
    have hpull : pullTop s = s.sp := by simp only [pullTop, h]
    rw [push8_pushTop, pull8_eq, pullAddr_pageOne, hpush, hpull, pageOne_sub_one]
    exact ⟨rfl, rfl⟩
  · have hpush : pushTop s = s.sp := by simp only [pushTop, h]
    have hpull : pullTop s = s.sp + 1 := by simp only [pullTop, h]
    rw [push8_pushTop, pull8_eq, pullAddr_pageOne, hpush, hpull, pageOne_add_one]
    exact ⟨rfl, rfl⟩

/-- Bytes pushed lie in the slots the statements name, the first at the slot of the next push (R106). -/
theorem pushSlot_toNat (s : State) (k : Nat) : (pushSlot s k).toNat = pageOne (pushTop s - BitVec.ofNat 8 k) := by
  have htop : pushTop (s.setSp (s.sp - BitVec.ofNat 8 k)) = pushTop s - BitVec.ofNat 8 k := by
    apply pushTop_sub <;> rfl
  rw [pushSlot, pushAddr_pageOne, htop]

theorem route_pushSlot (s : State) (k : Nat) : route (pushSlot s k) = .ram (pushSlot s k).toNat := by
  have hlt := (pushTop s - BitVec.ofNat 8 k).isLt
  have hslot := pushSlot_toNat s k
  rw [pageOne] at hslot
  rw [route_ram_iff]
  omega

/-- Work RAM does not answer outside its window. -/
theorem memByte_setRam {a : Addr} (m : Memory) (s : State) (h : ∀ i, route a ≠ .ram i) :
    memByte (s.setRam m) a = memByte s a := by
  unfold memByte
  split
  · exact absurd ‹_› (h _)
  · rfl
  · rfl

/-- A state whose RAM is that of `s` with bytes pushed, and whose cartridge and Mapper are those of `s`, has the bytes in
their slots and every other byte of memory as before. -/
theorem pushed_of_ram {s t : State} {bytes : List Byte} (hram : t.ram = pushedRam s.ram (pushTop s) bytes)
    (hcart : t.cart = s.cart) (hmapper : t.mapper = s.mapper) (hlen : bytes.length ≤ 256) : Pushed s t bytes := by
  refine ⟨fun hr k hk => ?_, fun a ha => ?_⟩
  · simp only [memByte, route_pushSlot]
    rw [hram, pushSlot_toNat, read_pushedRam hr hlen hk]
  · by_cases hlow : a.toNat < 0x2000
    · have hne : ∀ k, k < bytes.length → a.toNat % 2048 ≠ pageOne (pushTop s - BitVec.ofNat 8 k) := by
        intro k hk e
        obtain ⟨hslot, hmod⟩ := route_ram_iff.1 (route_pushSlot s k)
        exact ha k hk (.inr ⟨hlow, hslot, by rw [hmod, pushSlot_toNat, e]⟩)
      simp only [memByte, route_ram hlow]
      rw [hram, read_pushedRam_ne hne]
    · calc memByte t a
        _ = memByte (s.setRam t.ram) a := memByte_congr (s := s.setRam t.ram) (t := t) rfl hcart hmapper a
        _ = memByte s a := memByte_setRam _ s (route_ne_ram (by omega))

/-! ## Entering an interrupt -/

@[simp] theorem State.setPc_cpu (a : Addr) (s : State) : (s.setPc a).cpu = { s.cpu with pc := a } := rfl
@[simp] theorem State.setCyc_cpu (n : Nat) (s : State) : (s.setCyc n).cpu = s.cpu := rfl

section

variable (a : Addr) (s : State)

@[simp] theorem read16_cpu : (read16 a s).2.cpu = s.cpu := by simp [read16]
@[simp] theorem read16_cyc : (read16 a s).2.cyc = s.cyc := by simp [read16]
@[simp] theorem read16_ram : (read16 a s).2.ram = s.ram := by simp [read16]
@[simp] theorem read16_cart : (read16 a s).2.cart = s.cart := by simp [read16]
@[simp] theorem read16_mapper : (read16 a s).2.mapper = s.mapper := by simp [read16]

end

/-- Entering an interrupt takes no cycles of its own (R815). -/
theorem enterInterrupt_cyc (ret : Addr) (brk setI : Bool) (vec : Addr) (s : State) :
    (enterInterrupt ret brk setI vec s).cyc = s.cyc := by
  rw [enterInterrupt_eq]
  exact read16_cyc vec _

/-- Moving PC and the clock leaves everything outside the CPU and the clock. -/
theorem restOf_setPc_setCyc (a : Addr) (n : Nat) (u : State) : RestOf u ((u.setPc a).setCyc n) :=
  ⟨rfl, rfl, rfl, rfl, rfl, rfl, rfl, rfl, rfl, rfl, rfl, rfl, rfl, rfl, rfl, rfl⟩

/-- What `enterInterrupt` does is what R814 says, whatever the clock shows after it. -/
theorem entered_enterInterrupt (ret : Addr) (brk setI : Bool) (vec : Addr) (n : Nat) (s : State) :
    Entered s ((enterInterrupt ret brk setI vec s).setCyc n) ret brk setI vec := by
  have himage : s.p.pack brk = image s.p brk := pack_eq s.p brk
  rw [enterInterrupt_eq, himage]
  simp only [Entered, State.setCyc_ram, State.setPc_ram, read16_ram]
  refine ⟨?_, restOf_setPc_setCyc _ _ _, ?_⟩
  · simp only [State.setCyc_cpu, State.setPc_cpu, read16_cpu]
  · exact pushed_of_ram (by simp) (by simp) (by simp) (by simp)

/-! ## The arbiter -/

theorem irqLine_iff (s : State) :
    irqLine s = true ↔ s.apu.frameIrq = true ∨ s.apu.dmcIrq = true ∨ mapperIrq s = true := by
  simp only [irqLine, Bool.or_eq_true, or_assoc]

theorem arbiter_of_nmi {s : State} (h : s.nmiPending = true) : arbiter s = nmiEntry s := by
  simp only [arbiter, h, if_true]

theorem arbiter_of_irq {s : State} (hn : s.nmiPending = false) (hl : irqLine s = true) (hi : s.p.i = false) :
    arbiter s = irqEntry s := by
  simp [arbiter, hn, hl, hi]

theorem arbiter_of_none {s : State} (hn : s.nmiPending = false) (h : irqLine s = false ∨ s.p.i = true) :
    arbiter s = s := by
  rcases h with h | h <;> simp [arbiter, hn, h]

/-- Settles O40: the three branches of the arbiter, each entry by the rule of R814. -/
theorem arbiterDeliversNmiBeforeIrq : Obligations.ArbiterDeliversNmiBeforeIrq := by
  intro s
  refine ⟨fun hn => ?_, fun hn hl hi => ?_, fun hn h => arbiter_of_none hn (h.imp_left fun hs => ?_)⟩
  · rw [arbiter_of_nmi hn]
    exact ⟨congrArg (· + 7) (enterInterrupt_cyc _ _ _ _ _), entered_enterInterrupt _ _ _ _ _ _⟩
  · rw [arbiter_of_irq hn ((irqLine_iff s).2 hl) hi]
    exact ⟨congrArg (· + 7) (enterInterrupt_cyc _ _ _ _ _), entered_enterInterrupt _ _ _ _ _ _⟩
  · obtain ⟨hf, hd, hm⟩ := hs
    simp only [irqLine, hf, hd, hm, Bool.or_false]

end Sys2Proof.Machine
end

section
/-! PROOFS. A dot away from the two flag positions leaves the flags and what the CPU writes; a Mapper's request stays until a
write of its window (O48). -/

namespace Sys2Proof.Machine

/-- What the work of a dot does to the flags of the picture unit where it is neither `VblankSet` nor `FlagsClear`: vblank,
the NMI latch and the noted suppression stay, no sprite flag is cleared (R642, R643). -/
structure FlagsKept (s t : State) : Prop where
  vblank : t.ppu.vblank = s.ppu.vblank
  nmiPending : t.nmiPending = s.nmiPending
  vblSuppress : t.ppu.vblSuppress = s.ppu.vblSuppress
  sprite0Hit : s.ppu.sprite0Hit = true → t.ppu.sprite0Hit = true
  spriteOverflow : s.ppu.spriteOverflow = true → t.ppu.spriteOverflow = true

namespace FlagsKept

theorem refl (s : State) : FlagsKept s s := ⟨rfl, rfl, rfl, id, id⟩

theorem trans {s t u : State} (h : FlagsKept s t) (k : FlagsKept t u) : FlagsKept s u where
  vblank := k.vblank.trans h.vblank
  nmiPending := k.nmiPending.trans h.nmiPending
  vblSuppress := k.vblSuppress.trans h.vblSuppress
  sprite0Hit := k.sprite0Hit ∘ h.sprite0Hit
  spriteOverflow := k.spriteOverflow ∘ h.spriteOverflow

/-- Work that only changes the unit. -/
theorem ppu {s : State} {p : Ppu} (hv : p.vblank = s.ppu.vblank) (hs : p.vblSuppress = s.ppu.vblSuppress)
    (hz : s.ppu.sprite0Hit = true → p.sprite0Hit = true)
    (ho : s.ppu.spriteOverflow = true → p.spriteOverflow = true) : FlagsKept s (s.setPpu p) :=
  ⟨hv, rfl, hs, hz, ho⟩

/-- Work done under a condition. -/
theorem ite {c : Prop} [Decidable c] {s t : State} (h : c → FlagsKept s t) : FlagsKept s (if c then t else s) := by
  split
  · exact h ‹_›
  · exact refl s

/-! ## The parts of a dot -/

theorem read (a : PpuAddr) (s : State) : FlagsKept s (ppuRead a s).2 := by
  obtain ⟨f, h⟩ := ppuRead_cases a s
  rw [h]
  exact ⟨rfl, rfl, rfl, id, id⟩

theorem fetchPhase (d : Nat) (s : State) : FlagsKept s (fetchPhase d s) := by
  unfold Machine.fetchPhase
  split
  · exact (read _ s).trans (ppu rfl rfl id id)
  · exact (read _ s).trans (ppu rfl rfl id id)
  · exact (read _ s).trans (ppu rfl rfl id id)
  · exact (read _ s).trans (ppu rfl rfl id id)
  · exact ppu rfl rfl id id
  · exact refl s

theorem fetchSprite (sl k : Nat) (s : State) : FlagsKept s (fetchSprite sl k s) :=
  (read _ s).trans ((read _ _).trans (ppu rfl rfl id id))

theorem fetchSprites (sl count k : Nat) (s : State) : FlagsKept s (fetchSprites sl count k s) := by
  induction k generalizing s with
  | zero => exact refl s
  | succ k ih => exact (fetchSprite _ _ s).trans (ih _)

theorem spritesForNextLine (sl : Nat) (s : State) : FlagsKept s (spritesForNextLine sl s) := by
  unfold Machine.spritesForNextLine
  split
  · exact ppu rfl rfl id id
  · refine trans ?_ (fetchSprites _ _ _ _)
    exact ppu rfl rfl id fun h => Bool.or_eq_true_iff.2 (.inl h)

theorem pixel (o : SpriteOverlapOrder) (sl px : Nat) (s : State) : FlagsKept s (s.setPpu (s.ppu.pixel o sl px)) :=
  ppu rfl rfl (fun h => Bool.or_eq_true_iff.2 (.inl h)) id

theorem lineWork (sl d : Nat) (s : State) : FlagsKept s (lineWork sl d s) := by
  unfold Machine.lineWork
  split
  · refine (ite fun _ => ?_).trans ((ite fun _ => ?_).trans (ite fun _ => ppu rfl rfl id id))
    · refine trans ?_ (fetchPhase d _)
      exact ppu rfl rfl id id
    · refine trans ?_ (spritesForNextLine sl _)
      exact ppu rfl rfl id id
  · exact ite fun _ => ppu rfl rfl id id

theorem mapperTick (s : State) : FlagsKept s (mapperTick s) := by
  unfold Machine.mapperTick
  split
  · exact refl s
  · exact ⟨rfl, rfl, rfl, id, id⟩

/-- The work of a dot at every position but the two of R642 and R643. -/
theorem dotWork {sl d : Nat} (hset : (sl, d) ≠ (241, 1)) (hclear : (sl, d) ≠ (261, 1)) (s : State) :
    FlagsKept s (dotWork sl d s) := by
  have hset' : ¬(sl = 241 ∧ d = 1) := fun h => hset (Prod.ext h.1 h.2)
  have hclear' : ¬(sl = 261 ∧ d = 1) := fun h => hclear (Prod.ext h.1 h.2)
  simp only [Machine.dotWork, if_neg hset', if_neg hclear']
  exact (ite fun _ => pixel _ _ _ _).trans ((ite fun _ => lineWork _ _ _).trans (ite fun _ => mapperTick _))

end FlagsKept

/-! ## A whole dot -/

/-- Moving the position changes nothing else of the unit (R623). -/
theorem advanceDot_ppu (s : State) : ∃ sl d parity,
    (advanceDot s).ppu = { s.ppu with scanline := sl, dot := d, frameParity := parity } := by
  unfold advanceDot
  simp only []
  repeat' split
  all_goals exact ⟨_, _, _, rfl⟩

theorem advanceDot_nmiPending (s : State) : (advanceDot s).nmiPending = s.nmiPending := by
  unfold advanceDot
  simp only []
  repeat' split
  all_goals rfl

/-- After its work a dot moves the position and counts itself; nothing else of the unit changes (R622, R623). -/
theorem dot_ppu (s : State) : ∃ sl d parity n,
    (dot s).ppu = { (dotWork s.ppu.scanline s.ppu.dot s).ppu with
      scanline := sl, dot := d, frameParity := parity, ppuDots := n } := by
  obtain ⟨sl, d, parity, h⟩ := advanceDot_ppu (dotWork s.ppu.scanline s.ppu.dot s)
  exact ⟨sl, d, parity, _, by rw [dot, State.setPpu_ppu, h]⟩

theorem dot_nmiPending (s : State) : (dot s).nmiPending = (dotWork s.ppu.scanline s.ppu.dot s).nmiPending :=
  advanceDot_nmiPending _

/-- Work on the whole state is work on its picture unit. -/
theorem Works.ppuWorks {s t : State} (h : Works s t) : s.ppu.Works t.ppu := by
  obtain ⟨f, nmi, p, ms, rfl, hw, _⟩ := h
  exact hw

/-! ## The Mapper's request -/

theorem mapperIrq_write8_low {a : Addr} (v : Byte) (s : State) (h : a.toNat < 0x4020) :
    mapperIrq (write8 a v s) = mapperIrq s :=
  mapperIrq_write8 v s fun hc => absurd (route_cartridge_iff.1 hc) (by omega)

theorem mapperIrq_of_fixed {s : State} (h : s.cart.fixed = true) : mapperIrq s = false := by
  simp only [mapperIrq, fixedMapping_of_fixed h, Bool.not_true, Bool.false_and]

/-- Settles O48: the work of the dot keeps the flags and the CPU's registers, and moving the position touches neither. -/
theorem vblankChangesOnlyAtItsDots : Obligations.VblankChangesOnlyAtItsDots := by
  refine ⟨fun s hset hclear => ?_, fun _ => mapperIrq_dot, mapperIrq_read8, fun _ v s => mapperIrq_write8_low v s,
    fun _ => mapperIrq_of_fixed⟩
  have hflags := FlagsKept.dotWork hset hclear s
  have hwork := (works_dotWork s.ppu.scanline s.ppu.dot s).ppuWorks
  obtain ⟨sl, d, parity, n, hppu⟩ := dot_ppu s
  simp only [hppu, dot_nmiPending]
  exact ⟨hflags.vblank, hflags.nmiPending, hflags.vblSuppress, hflags.sprite0Hit, hflags.spriteOverflow, hwork.ctrl,
    hwork.mask, hwork.oamAddr, hwork.t, hwork.x, hwork.w, hwork.readBuffer, hwork.ioLatch, hwork.oam, hwork.vram,
    hwork.palette⟩

end Sys2Proof.Machine
end

section
/-! PROOFS. The fetch reads the instruction's bytes from PC on, whatever device answers them, and the step runs the
instruction (O23). -/

namespace Sys2Proof.Machine

open Sys2Proof.Claims

/-- An instruction with a table entry keeps all of the read of its opcode byte (R302). -/
theorem afterOpcode_of_decodable {i : Instr} (hi : ∀ op, i ≠ .undecodable op) (s t : State) : afterOpcode i s t = t := by
  unfold afterOpcode
  split
  · exact absurd rfl (hi _)
  · rfl

/-- The fetch is the bus reads of the bytes that decode, whatever answers them (R302, R316): the format of the opcode byte
says how many there are. -/
theorem fetch_of_readBytes {s : State} {i : Instr} {n : Nat} (hd : decode (readBytes s.pc n s).1 = .ok (i, []))
    (hi : ∀ op, i ≠ .undecodable op) : fetch s = (i, (readBytes s.pc n s).2) := by
  have hpc : s.pc + 1 + 1 = s.pc + 2 := by rw [BitVec.add_assoc]; rfl
  -- As many reads as the format wants: with fewer nothing decodes, with more bytes are left over.
  rcases n with _ | n
  · cases hd
  cases hf : opcodeFormat (read8 s.pc s).1 with
  | one j =>
    rcases n with _ | n <;> simp only [readBytes, decode, hf] at hd <;> cases hd
    simp only [fetch, hf, readBytes, afterOpcode_of_decodable hi]
  | two g =>
    rcases n with _ | _ | n <;> simp only [readBytes, decode, hf] at hd <;> cases hd
    simp only [fetch, hf, readBytes]
  | three g =>
    rcases n with _ | _ | _ | n <;> simp only [readBytes, decode, hf] at hd <;> cases hd
    simp only [fetch, hf, readBytes, hpc]

/-- Settles O23: the fetch reads the bytes and gives the instruction, which answers; the rest of the step follows. -/
theorem stepRunsTheDecodedInstruction : Obligations.StepRunsTheDecodedInstruction := by
  refine ⟨?_, fun s i bytes hs hd hm => ?_⟩
  · intro s i hs f hd hi hf
    have hfetch : fetch (clearOutputs s) = (i, f.2) := fetch_of_readBytes (s := clearOutputs s) hd hi
    obtain ⟨t, ht⟩ := exec_answers i f.2
    exact ⟨t, ht, step_of_exec hs (by rw [hfetch]; exact hf) (by rw [hfetch]; exact ht)⟩
  · have hfetch : fetch (clearOutputs s) = (i, (clearOutputs s).setDb (bytes.getLastD 0)) :=
      fetch_of_bytes hd fun k hk => (memByte_congr rfl rfl rfl _).trans (hm k hk)
    obtain ⟨t, ht⟩ := exec_answers i ((clearOutputs s).setDb (bytes.getLastD 0))
    exact ⟨t, ht, step_of_exec hs (by rw [hfetch]; exact hs) (by rw [hfetch]; exact ht)⟩

end Sys2Proof.Machine
end

section
/-! PROOFS. The CPU bus by region: work RAM (O33), open bus (O34), the cartridge window of the fixed mapping (O35). -/

namespace Sys2Proof.Machine

/-! ## A read after a write, and the rows of the decoder that the statements name -/

/-- A read after a write of a canonical memory: the value at the cell written, the old one elsewhere. -/
theorem Cells.read_write {w : Nat} {r : Region} {m : Cells w} (h : m.rising = true) (a b : Nat) (v : BitVec w) :
    (m.write r a v).read r b = if b = a then v else m.read r b := by
  split
  · next e => rw [e, read_write_same v h]
  · next e => exact read_write_ne v e

/-- 0x4018 to 0x401F: nothing answers (R201). -/
theorem route_nothing {a : Addr} (h1 : 0x4018 ≤ a.toNat) (h2 : a.toNat < 0x4020) : route a = .nothing := by
  have hne : ∀ n, n < 0x4018 → a.toNat ≠ n := fun n hn => by omega
  have hge : ∀ n, n ≤ 0x4018 → ¬a.toNat < n := fun n hn => by omega
  simp [route, hne, hge, h2]

/-- A read of 0x4000 to 0x4014, the write-only audio and DMA registers, gives `db` and changes nothing (R205, R230). -/
theorem read8_writeOnly {a : Addr} (s : State) (h1 : 0x4000 ≤ a.toNat) (h2 : a.toNat ≤ 0x4014) :
    read8 a s = (s.db, s) := by
  have hge : ∀ n, n ≤ 0x4000 → ¬a.toNat < n := fun n hn => by omega
  by_cases h : a.toNat < 0x4014
  · simp [read8, route, hge, h]
  · have he : a.toNat = 0x4014 := by omega
    simp [read8, route, he]

/-- With the fixed mapping nothing drives the window below 0x8000 (R241, R247). -/
theorem read8_fixed_low {a : Addr} {s : State} (hf : s.cart.fixed = true) (h1 : 0x4020 ≤ a.toNat)
    (h2 : a.toNat < 0x8000) : read8 a s = (s.db, s) := by
  have hlow : ¬0x8000 ≤ a.toNat := by omega
  simp only [read8, route_cartridge_iff.2 h1, cartRead, translatePrg, fixedMapping_of_fixed hf, hlow, if_true, if_false]

/-! ## The statements -/

/-- Settles O33: below 0x2000 the decoder gives the cell modulo 2048. -/
theorem workRamIsMirrored : Obligations.WorkRamIsMirrored := by
  intro s a v ha
  refine ⟨read8_of_ram s (route_ram ha), write8_of_ram v s (route_ram ha), fun hr b hb => ?_⟩
  rw [write8_of_ram v s (route_ram ha), read8_of_ram _ (route_ram hb), read8_of_ram _ (route_ram hb)]
  exact Cells.read_write hr _ _ v

/-- Settles O34: the decoder's rows for write-only registers and for nothing answer with `db`. -/
theorem openBusReadsReturnTheLatch : Obligations.OpenBusReadsReturnTheLatch := by
  refine fun s a v => ⟨read8_writeOnly s, fun h1 h2 => ?_⟩
  simp only [read8, write8, route_nothing h1 h2]
  exact ⟨trivial, rfl⟩

/-- Settles O35: program memory answers from 0x8000 on, nothing below, and no write reaches the Mapper's state. -/
theorem fixedMappingWindow : Obligations.FixedMappingWindow := by
  intro s a v hf ha
  exact ⟨fun h => read8_of_memByte (memByte_prg_fixed hf h), read8_fixed_low hf ha,
    write8_cartridge_fixed v s (route_cartridge_iff.2 ha) hf⟩

end Sys2Proof.Machine
end

section
/-! PROOFS. The controller ports (O38): each read moves a register right with a 1 entering, so the n-th one shows bit n. -/

namespace Sys2Proof.Machine

open Sys2Proof.Claims

/-! ## The byte and the register of a port, on numbers -/

/-- R236: bits 7 to 5 of `db`, zeros, and the data bit. -/
theorem controllerByte_eq (db : Byte) (bit : Bool) :
    controllerByte db bit = BitVec.ofNat 8 (db.toNat / 32 * 32 + bit.toNat) := by
  revert db bit; decide

theorem toNat_getLsbD_zero (v : Byte) : (v.getLsbD 0).toNat = v.toNat % 2 := by
  rw [bit0_eq]
  rcases Nat.mod_two_eq_zero_or_one v.toNat with h | h <;> simp [h]

theorem joyShifted_eq (r : Byte) : joyShifted r = BitVec.ofNat 8 (128 + r.toNat / 2) := by
  rw [Nat.add_comm, joyShifted, BitVec.or_comm]
  exact rorResult_eq r true

/-- A shift moves every bit one place down and puts a 1 at the top (R236). -/
theorem getLsbD_joyShifted (r : Byte) {i : Nat} (hi : i < 8) :
    (joyShifted r).getLsbD i = (decide (8 ≤ i + 1) || r.getLsbD (i + 1)) := by
  have top : (0x80 : Byte).getLsbD i = decide (8 ≤ i + 1) := by revert i; decide
  rw [joyShifted, BitVec.getLsbD_or, BitVec.getLsbD_ushiftRight, Nat.add_comm 1 i]
  exact congrArg (· || r.getLsbD (i + 1)) top

/-- After `n` shifts bit `i` is what stood `n` places higher, or one of the ones that entered. -/
theorem getLsbD_joyShifted_iterate (n : Nat) (r : Byte) {i : Nat} (hi : i < 8) :
    (joyShifted^[n] r).getLsbD i = (decide (8 ≤ i + n) || r.getLsbD (i + n)) := by
  induction n generalizing r with
  | zero => simp [hi]
  | succ n ih =>
    rw [Function.iterate_succ_apply, ih]
    by_cases h : 8 ≤ i + n
    · have h' : 8 ≤ i + (n + 1) := by omega
      simp [h, h']
    · rw [getLsbD_joyShifted r (by omega), ← Nat.add_assoc]
      simp [h]

/-- The bit a register shows after `n` shifts: its own bit `n`, and 1 from the eighth on (R236). -/
theorem joyShifted_iterate_mod_two (n : Nat) (r : Byte) :
    (joyShifted^[n] r).toNat % 2 = if n < 8 then r.toNat / 2 ^ n % 2 else 1 := by
  rw [← toNat_getLsbD_zero, getLsbD_joyShifted_iterate n r (by decide), Nat.zero_add]
  split
  · next h =>
    rw [← BitVec.testBit_toNat, Nat.testBit_eq_decide_div_mod_eq]
    rcases Nat.mod_two_eq_zero_or_one (r.toNat / 2 ^ n) with hb | hb <;> simp [h, hb]
  · next h => simp [Nat.le_of_not_lt h]

/-! ## Reads and writes of the ports -/

/-- R235: the strobe is bit 0, and a 1 latches both controllers. -/
theorem write8_controller1 (v : Byte) (s : State) : write8 0x4016 v s =
    { s with
      db := v
      joyStrobe := decide (v.toNat % 2 = 1)
      joyShift0 := if v.toNat % 2 = 1 then s.buttons0 else s.joyShift0
      joyShift1 := if v.toNat % 2 = 1 then s.buttons1 else s.joyShift1 } := by
  have hr : route 0x4016 = .controller1 := rfl
  simp only [write8, hr, writeStrobe, bit0_eq]
  by_cases h : v.toNat % 2 = 1 <;> simp only [h, decide_true, decide_false, if_true, if_false] <;> rfl

/-- What a port read gives (R236): from the buttons while the strobe is on, else from the register. -/
def controllerAnswer (db : Byte) (strobe : Bool) (buttons shift : Byte) : Byte :=
  BitVec.ofNat 8 (db.toNat / 32 * 32 + (if strobe then buttons else shift).toNat % 2)

theorem controllerAnswer_eq (db : Byte) (strobe : Bool) (buttons shift : Byte) :
    controllerAnswer db strobe buttons shift = controllerByte db ((if strobe then buttons else shift).getLsbD 0) := by
  rw [controllerByte_eq, toNat_getLsbD_zero, controllerAnswer]

theorem read8_controller1 (s : State) :
    read8 0x4016 s = driven (controllerAnswer s.db s.joyStrobe s.buttons0 s.joyShift0,
      s.setJoyShift0 (if s.joyStrobe then s.joyShift0 else joyShifted s.joyShift0)) := by
  have hr : route 0x4016 = .controller1 := rfl
  simp only [read8, hr, readController1, controllerAnswer_eq]
  split <;> rfl

theorem read8_controller2 (s : State) :
    read8 0x4017 s = driven (controllerAnswer s.db s.joyStrobe s.buttons1 s.joyShift1,
      s.setJoyShift1 (if s.joyStrobe then s.joyShift1 else joyShifted s.joyShift1)) := by
  have hr : route 0x4017 = .controller2 := rfl
  simp only [read8, hr, readController2, controllerAnswer_eq]
  split <;> rfl

/-! ## Repeated reads -/

@[simp] theorem readTimes_joyStrobe (a : Addr) (n : Nat) (s : State) : (readTimes a n s).joyStrobe = s.joyStrobe := by
  induction n generalizing s with
  | zero => rfl
  | succ n ih => exact (ih _).trans (read8_joyStrobe a s)

/-- The bit the `n`-th read of a port gives with the strobe off, where each read answers with the register `reg` and then
shifts it. -/
theorem controllerAnswer_readTimes {a : Addr} {reg : State → Byte}
    (answer : ∀ t : State, t.joyStrobe = false → (read8 a t).1.toNat % 2 = (reg t).toNat % 2)
    (shift : ∀ t : State, t.joyStrobe = false → reg (read8 a t).2 = joyShifted (reg t))
    {s : State} (hs : s.joyStrobe = false) (n : Nat) :
    (read8 a (readTimes a n s)).1.toNat % 2 = if n < 8 then (reg s).toNat / 2 ^ n % 2 else 1 := by
  have hreg : reg (readTimes a n s) = joyShifted^[n] (reg s) := by
    induction n generalizing s with
    | zero => rfl
    | succ n ih => rw [readTimes, ih ((read8_joyStrobe a s).trans hs), shift s hs, Function.iterate_succ_apply]
  rw [answer _ (by rw [readTimes_joyStrobe, hs]), hreg, joyShifted_iterate_mod_two]

theorem controllerAnswer_mod_two (db buttons shift : Byte) :
    (controllerAnswer db false buttons shift).toNat % 2 = shift.toNat % 2 := by
  simp only [controllerAnswer, BitVec.toNat_ofNat, Bool.false_eq_true, if_false]
  omega

/-- Settles O38: the ports by their equations, and the `n`-th read by the bits of the register after `n` shifts. -/
theorem controllersShiftOneButtonPerRead : Obligations.ControllersShiftOneButtonPerRead := by
  intro s
  refine ⟨fun v => write8_controller1 v s, ?_, ?_, fun hs n => ⟨?_, ?_⟩⟩
  · simp only [← joyShifted_eq]
    exact read8_controller1 s
  · simp only [← joyShifted_eq]
    exact read8_controller2 s
  · refine controllerAnswer_readTimes (reg := State.joyShift0) (fun t ht => ?_) (fun t ht => ?_) hs n <;>
      rw [read8_controller1, ht]
    · exact controllerAnswer_mod_two _ _ _
    · rfl
  · refine controllerAnswer_readTimes (reg := State.joyShift1) (fun t ht => ?_) (fun t ht => ?_) hs n <;>
      rw [read8_controller2, ht]
    · exact controllerAnswer_mod_two _ _ _
    · rfl

end Sys2Proof.Machine
end

section
/-! PROOFS. Sprite DMA (O37): each of its 256 steps is a bus read and a write of PPU port 4; from a page that is memory it
fills OAM from `oam_addr` on. -/

namespace Sys2Proof.Machine

/-! ## One step, whatever answers the read -/

/-- Whatever answers a read, or nothing, `db` then holds the byte read (R212). -/
theorem read8_db (a : Addr) (s : State) : (read8 a s).2.db = (read8 a s).1 := by
  cases hr : route a with
  | cartridge =>
    simp only [read8, hr, cartRead]
    split
    · rfl
    · split <;> rfl
  | _ => simp only [read8, hr] <;> rfl

/-- A write of a byte to PPU port 4 that stands in `db` already is the port's action alone. -/
theorem write8_port4_of_db {s : State} {v : Byte} (h : s.db = v) : write8 0x2004 v s = ppuPortWrite 4 v s := by
  subst h
  rfl

/-- Byte `i` of the sprite DMA from `page` (R231): a bus read and a bus write. -/
def dmaByte (page : Byte) (i : Nat) (s : State) : State :=
  let r := read8 (BitVec.ofNat 16 (256 * page.toNat + i)) s
  write8 0x2004 r.1 r.2

/-- The state after the first `i` bytes of the sprite DMA, once `db` holds the page number. -/
def dmaAfter (page : Byte) (s : State) : Nat → State
  | 0 => s.setDb page
  | i + 1 => dmaByte page i (dmaAfter page s i)

theorem dmaLoop_succ (page : Byte) (k : Nat) (s : State) :
    dmaLoop page (k + 1) s = dmaLoop page k (dmaByte page (255 - k) s) := by
  have haddr : word page (BitVec.ofNat 8 (255 - k)) = BitVec.ofNat 16 (256 * page.toNat + (255 - k)) := by
    rw [word_eq, BitVec.toNat_ofNat, Nat.mod_eq_of_lt (by omega)]
  simp only [dmaLoop, dmaByte, haddr, write8_port4_of_db (read8_db _ s)]

/-- The model's loop, which counts the bytes left, ends after byte 255. -/
theorem dmaLoop_dmaAfter (page : Byte) (s : State) {k : Nat} (hk : k ≤ 256) :
    dmaLoop page k (dmaAfter page s (256 - k)) = dmaAfter page s 256 := by
  induction k with
  | zero => rfl
  | succ k ih =>
    have hnext : dmaByte page (255 - k) (dmaAfter page s (255 - k)) = dmaAfter page s (256 - k) := by
      rw [show 256 - k = 255 - k + 1 by omega, dmaAfter]
    rw [dmaLoop_succ, show 256 - (k + 1) = 255 - k by omega, hnext]
    exact ih (by omega)

theorem write8_dma (page : Byte) (s : State) : write8 0x4014 page s = dmaAfter page s 256 := by
  have hr : route 0x4014 = .dma := rfl
  simp only [write8, hr, spriteDma]
  exact dmaLoop_dmaAfter page s (Nat.le_refl 256)

/-! ## From a page that is memory -/

/-- OAM after `i` bytes of `b` were written through port 4, the address moving on after each (R231, R612). -/
def oamFilled (b : Nat → Byte) (p : Ppu) : Nat → Memory
  | 0 => p.oam
  | i + 1 => (oamFilled b p i).write .oam (p.oamAddr + BitVec.ofNat 8 i).toNat (oamByte (p.oamAddr + BitVec.ofNat 8 i) (b i))

/-- A step whose byte memory answers: port 4 stores it, and the latches take it. -/
theorem dmaByte_of_memByte {page v : Byte} {i : Nat} {s : State}
    (h : memByte s (BitVec.ofNat 16 (256 * page.toNat + i)) = some v) :
    dmaByte page i s = { s with db := v, ppu := Ppu.writeOamData { s.ppu with ioLatch := v } v } := by
  simp only [dmaByte, read8_of_memByte h]
  rfl

/-- The state once bytes 0 to `i` of `b` were copied: OAM and its address, and the two latches that hold the last byte. -/
def dmaCopied (b : Nat → Byte) (s : State) (i : Nat) : State :=
  { s with
    db := b i
    ppu := { s.ppu with
      ioLatch := b i
      oam := oamFilled b s.ppu (i + 1)
      oamAddr := s.ppu.oamAddr + BitVec.ofNat 8 (i + 1) } }

theorem dmaAfter_of_memByte {page : Byte} {s : State} {b : Nat → Byte}
    (hb : ∀ i, i < 256 → memByte s (BitVec.ofNat 16 (256 * page.toNat + i)) = some (b i)) {i : Nat} (hi : i < 256) :
    dmaAfter page s (i + 1) = dmaCopied b s i := by
  induction i with
  | zero =>
    have hm : memByte (s.setDb page) (BitVec.ofNat 16 (256 * page.toNat + 0)) = some (b 0) :=
      (memByte_congr rfl rfl rfl _).trans (hb 0 hi)
    rw [dmaAfter, dmaAfter, dmaByte_of_memByte hm]
    simp [dmaCopied, oamFilled, Ppu.writeOamData]
  | succ i ih =>
    have hm : memByte (dmaCopied b s i) (BitVec.ofNat 16 (256 * page.toNat + (i + 1))) = some (b (i + 1)) :=
      (memByte_congr rfl rfl rfl _).trans (hb (i + 1) hi)
    have hnext : s.ppu.oamAddr + BitVec.ofNat 8 (i + 1) + 1 = s.ppu.oamAddr + BitVec.ofNat 8 (i + 1 + 1) := by
      rw [BitVec.ofNat_add (i + 1) 1, ← BitVec.add_assoc]
      rfl
    rw [dmaAfter, ih (by omega), dmaByte_of_memByte hm]
    simp only [dmaCopied, oamFilled, Ppu.writeOamData, hnext]

theorem oamFilled_rising {b : Nat → Byte} {p : Ppu} (h : p.oam.rising = true) (i : Nat) :
    (oamFilled b p i).rising = true := by
  induction i with
  | zero => exact h
  | succ i ih => exact Cells.write_rising _ ih

/-- The 256 addresses from `oam_addr` on are distinct cells, so each keeps the byte it got. -/
theorem read_oamFilled {b : Nat → Byte} {p : Ppu} (h : p.oam.rising = true) {i j : Nat} (hi : i ≤ 256) (hj : j < i) :
    (oamFilled b p i).read .oam (p.oamAddr + BitVec.ofNat 8 j).toNat = oamByte (p.oamAddr + BitVec.ofNat 8 j) (b j) := by
  induction i with
  | zero => omega
  | succ i ih =>
    rw [oamFilled, Cells.read_write (oamFilled_rising h i)]
    by_cases hij : j = i
    · rw [hij, if_pos rfl]
    · have hne : (p.oamAddr + BitVec.ofNat 8 j).toNat ≠ (p.oamAddr + BitVec.ofNat 8 i).toNat := by
        simp only [BitVec.toNat_add, BitVec.toNat_ofNat]
        omega
      rw [if_neg hne]
      exact ih (by omega) (by omega)

/-- R612 on numbers: an attribute cell is the third of its four. -/
theorem oamByte_eq (addr v : Byte) : oamByte addr v = if addr.toNat % 4 = 2 then v &&& 0xE3 else v := by
  have hmod : addr &&& 3 = 2 ↔ addr.toNat % 4 = 2 := by
    rw [← BitVec.toNat_inj, BitVec.toNat_and]
    exact Eq.congr_left (Nat.and_two_pow_sub_one_eq_mod addr.toNat 2)
  simp only [oamByte, hmod]

/-- Settles O37: the states between the DMA's bytes are `dmaAfter`; from memory they fill OAM and move `oam_addr` once
round. -/
theorem spriteDmaCopiesAPage : Obligations.SpriteDmaCopiesAPage := by
  intro s page
  refine ⟨⟨dmaAfter page s, rfl, write8_dma page s, fun i _ => rfl⟩, fun b hb hr => ?_⟩
  have hround : s.ppu.oamAddr + BitVec.ofNat 8 (255 + 1) = s.ppu.oamAddr := BitVec.add_zero _
  have ht : write8 0x4014 page s = { s with
      db := b 255
      ppu := { s.ppu with ioLatch := b 255, oam := oamFilled b s.ppu 256 } } := by
    rw [write8_dma, dmaAfter_of_memByte hb (Nat.lt_succ_self 255), dmaCopied, hround]
  have hoam : (write8 0x4014 page s).ppu.oam = oamFilled b s.ppu 256 := by rw [ht]
  dsimp only
  rw [hoam]
  refine ⟨ht, fun i hi => ?_⟩
  have hcell : (s.ppu.oamAddr.toNat + i) % 256 = (s.ppu.oamAddr + BitVec.ofNat 8 i).toNat := by
    simp only [BitVec.toNat_add, BitVec.toNat_ofNat]
    omega
  rw [hcell, read_oamFilled hr (Nat.le_refl 256) hi, oamByte_eq, ← hcell,
    Nat.mod_mod_of_dvd _ (by decide : 4 ∣ 256)]

end Sys2Proof.Machine
end

section
/-! PROOFS. The PPU's memory map (O46): nametables, palette, and the pattern memory of the fixed mapping. -/

namespace Sys2Proof.Machine

/-! ## Nametables (R252, R253) -/

section
variable {a : PpuAddr} (s : State) (h1 : 0x2000 ≤ a.toNat) (h2 : a.toNat < 0x3F00)
include h1 h2

theorem ppuRead_nametable : ppuRead a s = (s.ppu.vram.read .vram (vramIndex (mirroringMode s) a), s) := by
  simp only [ppuRead, Nat.not_lt.2 h1, h2, if_true, if_false]

theorem ppuWrite_nametable (v : Byte) : ppuWrite a v s =
    s.setPpu { s.ppu with vram := s.ppu.vram.write .vram (vramIndex (mirroringMode s) a) v } := by
  simp only [ppuWrite, Nat.not_lt.2 h1, h2, if_true, if_false]

end

/-- The wiring is a function of the cartridge and the Mapper's state. -/
@[simp] theorem mirroringMode_setPpu (p : Ppu) (s : State) : mirroringMode (s.setPpu p) = mirroringMode s := rfl

/-! ## Palette (R254) -/

section
variable {a : PpuAddr} (s : State) (h : 0x3F00 ≤ a.toNat)
include h

theorem ppuRead_palette :
    ppuRead a s = (BitVec.ofNat 8 (s.ppu.palette.read .palette (paletteIndex a.toNat)).toNat, s) := by
  have h0 : ¬a.toNat < 0x2000 := by omega
  simp only [ppuRead, h0, Nat.not_lt.2 h, if_false, BitVec.ofNat_toNat]

theorem ppuWrite_palette (v : Byte) : ppuWrite a v s =
    s.setPpu { s.ppu with palette := s.ppu.palette.write .palette (paletteIndex a.toNat) (v.setWidth 6) } := by
  have h0 : ¬a.toNat < 0x2000 := by omega
  simp only [ppuWrite, h0, Nat.not_lt.2 h, if_false]

end

/-- The four entries of R254 that share a cell, by the number of the one they share it with. -/
theorem paletteIndex_eq (n : Nat) : paletteIndex n = if 16 ≤ n % 32 ∧ n % 4 = 0 then n % 32 - 16 else n % 32 := by
  simp only [paletteIndex]
  split <;> split <;> omega

/-! ## Pattern memory of the fixed mapping (R243, R247) -/

section
variable {a : PpuAddr} {s : State} (hf : s.cart.fixed = true) (ha : a.toNat < 0x2000)
include hf ha

/-- The address is the offset, and it lies in graphics memory. -/
theorem translateChr_fixed : translateChr s a = a.toNat ∧ a.toNat < chrSize s := by
  have hs := chrSize_ge s
  exact ⟨by simp only [translateChr, fixedMapping_of_fixed hf, if_true], by omega⟩

/-- Without a graphics bank the address is the cell of graphics RAM. -/
theorem ppuRead_chrRam (hc : s.cart.chrBanks = 0) : ppuRead a s = (s.mapper.chrRam.read .chrRam a.toNat, s) := by
  obtain ⟨ho, hin⟩ := translateChr_fixed hf ha
  simp only [ppuRead, ha, chrRead, ho, hin, State.hasChrRam, hc, beq_self_eq_true, if_true]

theorem ppuWrite_chrRam (hc : s.cart.chrBanks = 0) (v : Byte) : ppuWrite a v s =
    s.setMapper { s.mapper with chrRam := s.mapper.chrRam.write .chrRam a.toNat v } := by
  obtain ⟨ho, hin⟩ := translateChr_fixed hf ha
  simp only [ppuWrite, ha, chrWrite, ho, hin, State.hasChrRam, hc, beq_self_eq_true, if_true]

/-- With a graphics bank the address is the byte of graphics ROM, which no write changes. -/
theorem ppuRead_chrRom (hc : s.cart.chrBanks ≠ 0) : ppuRead a s = (s.cart.chr.read .chr a.toNat, s) := by
  obtain ⟨ho, hin⟩ := translateChr_fixed hf ha
  simp only [ppuRead, ha, chrRead, ho, hin, State.hasChrRam, beq_iff_eq, hc, if_true, if_false]

theorem ppuWrite_chrRom (hc : s.cart.chrBanks ≠ 0) (v : Byte) : ppuWrite a v s = s := by
  obtain ⟨ho, hin⟩ := translateChr_fixed hf ha
  simp only [ppuWrite, ha, chrWrite, ho, hin, State.hasChrRam, beq_iff_eq, hc, if_true, if_false]

end

/-- Settles O46: each region by its read and write equations; where a read follows a write, by `Cells.read_write`. -/
theorem ppuMemoryMap : Obligations.PpuMemoryMap := by
  refine ⟨fun s a b => ⟨fun h1 h2 => ?_, fun h => ?_⟩, fun s a b hf ha => ⟨fun h0 => ?_, fun h0 => ?_⟩⟩
  · intro cell
    have hcell : ∀ c : PpuAddr, vramIndex (mirroringMode s) c = cell c := by
      intro c
      simp only [vramIndex, cell]
      cases mirroringMode s <;> simp only [physTable] <;> omega
    simp only [ppuRead_nametable s h1 h2, ppuWrite_nametable s h1 h2]
    refine ⟨by rw [hcell], rfl, fun hr c hc1 hc2 => ?_⟩
    simp only [ppuRead_nametable _ hc1 hc2, mirroringMode_setPpu, hcell]
    exact Cells.read_write hr _ _ b
  · intro cell
    have hcell : ∀ c : PpuAddr, paletteIndex c.toNat = cell c := fun c => paletteIndex_eq c.toNat
    simp only [ppuRead_palette s h, ppuWrite_palette s h]
    refine ⟨by rw [hcell], rfl, fun hr c hc => ?_⟩
    simp only [ppuRead_palette _ hc, hcell, State.setPpu_ppu, Cells.read_write hr]
    split
    · rw [BitVec.toNat_setWidth]
    · rfl
  · simp only [ppuRead_chrRam hf ha h0, ppuWrite_chrRam hf ha h0]
    refine ⟨trivial, rfl, fun hr c hc => ?_⟩
    simp only [ppuRead_chrRam, State.setMapper_cart, State.setMapper_mapper, hf, hc, h0, Cells.read_write hr,
      BitVec.toNat_inj]
  · exact ⟨ppuRead_chrRom hf ha h0, ppuWrite_chrRom hf ha h0 b⟩

end Sys2Proof.Machine
end

section
/-! PROOFS. A fault in the fetch or in the instruction stops the step (O26). -/

namespace Sys2Proof.Machine

open Sys2Proof.Claims

/-! ## A fault in the fetch -/

/-- A read that the Mapper translates beyond its memory latches `MapperBounds` (R246). -/
theorem read8_out_of_bounds {a : Addr} {s : State} {r : PrgRegion} {o : Nat} (ha : 0x4020 ≤ a.toNat)
    (ht : translatePrg s a = some (r, o)) (ho : prgSize s r ≤ o) : read8 a s = (s.db, raise (.mapperBounds a) s) := by
  simp only [read8, route_cartridge_iff.2 ha, cartRead, ht, Nat.not_lt.2 ho, if_false]

/-- What is left of the opcode's read keeps the fault it left (R802). -/
theorem afterOpcode_fault (i : Instr) (s t : State) : (afterOpcode i s t).fault = t.fault := by
  unfold afterOpcode
  split <;> rfl

/-- A fault that the opcode's read leaves is still latched after the operand reads (R803). -/
theorem fetch_keeps_fault {s : State} {q : Fault} (h : (read8 s.pc s).2.fault = some q) :
    (fetch s).2.fault = some q := by
  simp only [fetch]
  split
  · exact (afterOpcode_fault _ _ _).trans h
  · exact read8_keeps_fault _ h
  · exact read8_keeps_fault _ (read8_keeps_fault _ h)

@[simp] theorem clearOutputs_fault (s : State) : (clearOutputs s).fault = s.fault := rfl

theorem step_of_fetch_fault {s : State} {q : Fault} (hs : s.fault = none)
    (hf : (fetch (clearOutputs s)).2.fault = some q) : step s = .fault q := by
  simp only [step, hs, hf]

/-- The byte of the undecodable instruction is read alone, and the fetch keeps `db` and the fault of the read. -/
theorem fetch_of_readBytes_undecodable {s : State} {op : Byte}
    (hd : decode (readBytes s.pc (Instr.undecodable op).length s).1 = .ok (.undecodable op, [])) :
    fetch s = (.undecodable op, onlyLatched s (readBytes s.pc (Instr.undecodable op).length s).2) := by
  simp only [Instr.length, encode, List.length_singleton, readBytes] at hd ⊢
  cases hf : opcodeFormat (read8 s.pc s).1 with
  | one i =>
    simp only [decode, hf] at hd
    cases hd
    simp only [fetch, hf, afterOpcode]
  | two f => simp [decode, hf] at hd
  | three f => simp [decode, hf] at hd

/-- The fetch leaves the fault that the reads of the instruction's bytes leave. -/
theorem fetch_fault_of_readBytes {s : State} {i : Instr} (hd : decode (readBytes s.pc i.length s).1 = .ok (i, [])) :
    (fetch s).2.fault = (readBytes s.pc i.length s).2.fault := by
  by_cases hi : ∃ op, i = .undecodable op
  · obtain ⟨op, rfl⟩ := hi
    rw [fetch_of_readBytes_undecodable hd]
    rfl
  · rw [fetch_of_readBytes hd fun op e => hi ⟨op, e⟩]

/-! ## A fault in the instruction -/

/-- The undecodable instruction latches its own fault, not one of the Mapper (R523). -/
theorem exec_undecodable_fault {op : Byte} {s t : State} (hs : s.fault = none) (h : exec (.undecodable op) s = .next t) :
    t.fault = some (.undecodableOpcode s.pc op) := by
  cases h
  rw [raise_fault, hs]
  rfl

theorem finishStep_of_mapperBounds {s : State} {a : Addr} (h : s.fault = some (.mapperBounds a)) :
    finishStep s = .fault (.mapperBounds a) := by
  simp only [finishStep, unlessFaulted, h, stopWith]

/-- Settles O26: a fault of the fetch is the step's; one the instruction leaves stops the first phase after it, and the
undecodable instruction leaves none of the Mapper's. -/
theorem boundsFaultStopsTheStep : Obligations.BoundsFaultStopsTheStep := by
  refine ⟨fun s r o hs ha ht ho => ?_, ?_⟩
  · have hread : (read8 s.pc (clearOutputs s)).2.fault = some (.mapperBounds s.pc) := by
      rw [read8_out_of_bounds (s := clearOutputs s) ha ht ho, raise_fault, clearOutputs_fault, hs]
      rfl
    exact step_of_fetch_fault hs (fetch_keeps_fault (s := clearOutputs s) hread)
  · intro s i hs f hd
    have hfault := fetch_fault_of_readBytes (s := clearOutputs s) hd
    refine ⟨fun q hq => step_of_fetch_fault hs (hfault.trans hq), fun t a hn hx hta => ?_⟩
    have hi : ∀ op, i ≠ .undecodable op := by
      rintro op rfl
      rw [exec_undecodable_fault hn hx] at hta
      cases hta
    have hfetch : fetch (clearOutputs s) = (i, f.2) := fetch_of_readBytes (s := clearOutputs s) hd hi
    rw [step_of_exec hs (hfault.trans hn) (by rw [hfetch]; exact hx)]
    exact finishStep_of_mapperBounds hta

end Sys2Proof.Machine
end

section
/-! PROOFS. Decoding and encoding are inverse to each other (O21, O22); the undecodable bytes (O17) and a word of every
family (O20). -/

namespace Sys2Proof

open Sys2Proof.Laws

/-! ## Decoding -/

/-- The bytes a format takes, its opcode byte among them (R301). -/
def Format.size : Format → Nat
  | .one _ => 1
  | .two _ => 2
  | .three _ => 3

/-- What decodes is well-formed, its encoding stands in front of the rest, and its opcode byte fixes its length
(R300). -/
theorem decode_cons_eq_ok {op : Byte} {bs rest : List Byte} {i : Instr} (h : decode (op :: bs) = .ok (i, rest)) :
    i.wellFormed = true ∧ encode i ++ rest = op :: bs ∧ i.length = (opcodeFormat op).size := by
  have hfits := opcodeFormat_fits op
  cases hf : opcodeFormat op with
  | one j =>
    rw [hf] at hfits
    obtain ⟨henc, hwf, -⟩ := hfits
    simp only [decode, hf] at h
    cases h
    exact ⟨hwf, congrArg (· ++ _) henc, congrArg List.length henc⟩
  | two f =>
    rw [hf] at hfits
    rcases bs with _ | ⟨b1, bs⟩ <;> simp only [decode, hf] at h <;> cases h
    obtain ⟨henc, hwf, -⟩ := hfits b1
    exact ⟨hwf, congrArg (· ++ _) henc, congrArg List.length henc⟩
  | three f =>
    rw [hf] at hfits
    rcases bs with _ | ⟨b1, _ | ⟨b2, bs⟩⟩ <;> simp only [decode, hf] at h <;> cases h
    obtain ⟨henc, hwf, -⟩ := hfits b1 b2
    exact ⟨hwf, congrArg (· ++ _) henc, congrArg List.length henc⟩

theorem Format.size_bounds (f : Format) : 1 ≤ f.size ∧ f.size ≤ 3 := by
  cases f <;> simp [Format.size]

/-- Three bytes are enough for every format (R316). -/
theorem decode_three (b0 b1 b2 : Byte) (rest : List Byte) :
    ∃ i rest', decode (b0 :: b1 :: b2 :: rest) = .ok (i, rest') := by
  cases hf : opcodeFormat b0 with
  | one i => exact ⟨i, b1 :: b2 :: rest, by simp only [decode, hf]⟩
  | two f => exact ⟨f b1, b2 :: rest, by simp only [decode, hf]⟩
  | three f => exact ⟨f b1 b2, rest, by simp only [decode, hf]⟩

/-- The decoder undoes the encoder: the opcode byte of a constructor leads to its own cell of the matrix (R313). -/
theorem decode_encode {i : Instr} (h : i.wellFormed = true) (rest : List Byte) :
    decode (encode i ++ rest) = .ok (i, rest) := by
  cases i with
  | undecodable op => exact Encoding.undecodable op h rest
  | _ => rfl

/-- Settles O21: a case per constructor; the one that carries its opcode byte is where well-formedness is needed. -/
theorem decodeOfEncodeIsTheInstruction : Obligations.DecodeOfEncodeIsTheInstruction :=
  fun _ rest h => decode_encode h rest

/-- Settles O22: each cell of the opcode matrix fits its opcode byte, so the byte fixes the length. -/
theorem encodeOfDecodeIsTheBytes : Obligations.EncodeOfDecodeIsTheBytes := by
  refine ⟨fun bytes i rest h => ?_, decode_three⟩
  cases bytes with
  | nil => cases h
  | cons op bs =>
    obtain ⟨hwf, henc, hlen⟩ := decode_cons_eq_ok h
    obtain ⟨hmin, hmax⟩ := (opcodeFormat op).size_bounds
    refine ⟨hwf, henc, hlen ▸ hmin, hlen ▸ hmax, fun bytes' i' rest' h' hhead => ?_⟩
    cases bytes' with
    | nil => cases h'
    | cons op' bs' =>
      obtain rfl : op' = op := Option.some.inj hhead
      obtain ⟨-, -, hlen'⟩ := decode_cons_eq_ok h'
      exact hlen'.trans hlen.symm

end Sys2Proof

namespace Sys2Proof.Machine

/-! ## Undecodable bytes -/

theorem wellFormed_undecodable {op : Byte} : (Instr.undecodable op).wellFormed = true ↔ op ∈ undecodableBytes :=
  List.contains_iff_mem

/-- An opcode byte decodes to the undecodable instruction exactly if it is one of the bytes of R314. -/
theorem decode_eq_undecodable_iff {op : Byte} {rest : List Byte} :
    decode (op :: rest) = .ok (.undecodable op, rest) ↔ op ∈ undecodableBytes := by
  rw [← wellFormed_undecodable]
  constructor
  · intro h
    obtain ⟨hwf, -, -⟩ := decode_cons_eq_ok h
    exact hwf
  · exact fun h => decode_encode h rest

theorem raise_of_none {r : Fault} {s : State} (h : s.fault = none) : raise r s = s.setFault (some r) := by
  rw [raise, h]
  rfl

theorem step_of_fault {s : State} {r : Fault} (h : s.fault = some r) : step s = .fault r := by
  simp only [step, h]

/-- Settles O17: decoding and encoding single out the 25 bytes, the instruction raises the fault, the step looks at it
first. -/
theorem undecodableByteLatchesTheFault : Obligations.UndecodableByteLatchesTheFault :=
  ⟨fun _ _ => decode_eq_undecodable_iff, fun _ _ hs => congrArg Host.Outcome.next (raise_of_none hs),
    fun _ _ hs => step_of_fault hs⟩

/-- Settles O20: each word is read by its own cell of the opcode matrix. -/
theorem writtenWordsDecode : Obligations.WrittenWordsDecode :=
  ⟨rfl, rfl, rfl, rfl, rfl, rfl, rfl, rfl, rfl, rfl, rfl, rfl, rfl, rfl⟩

end Sys2Proof.Machine
end

section
/-! PROOFS. The addresses of the addressing modes on numbers: the direct modes (O18) and the pointer modes (O19). -/

namespace Sys2Proof.Machine

theorem hi_toNat (a : Addr) : (hi a).toNat = a.toNat / 256 := by
  have := a.isLt
  simp only [hi, BitVec.toNat_setWidth, BitVec.toNat_ushiftRight, Nat.shiftRight_eq_div_pow]
  omega

theorem zext16_eq_ofNat (b : Byte) : zext16 b = BitVec.ofNat 16 b.toNat :=
  (BitVec.ofNat_toNat 16 b).symm

/-- An index is added modulo 65536; the page changes exactly if the low byte of the base plus the index exceeds 255,
also where the sum wraps at the end of the address space (R306). -/
theorem indexed_word (h l index : Byte) (s : State) :
    indexed (word h l) index s =
      ⟨BitVec.ofNat 16 (256 * h.toNat + l.toNat + index.toNat), decide (255 < l.toNat + index.toNat), s⟩ := by
  have hhLt := h.isLt
  have hlLt := l.isLt
  have hxLt := index.isLt
  have hsum : word h l + zext16 index = BitVec.ofNat 16 (256 * h.toNat + l.toNat + index.toNat) := by
    rw [word_eq, zext16_eq_ofNat, ← BitVec.ofNat_add]
  have hpage : hi (BitVec.ofNat 16 (256 * h.toNat + l.toNat + index.toNat)) ≠ hi (word h l) ↔
      255 < l.toNat + index.toNat := by
    rw [hi_word, ne_eq, ← BitVec.toNat_inj, hi_toNat, BitVec.toNat_ofNat]
    omega
  simp only [indexed, hsum, hpage]

/-- Settles O18: the page-zero sums wrap as bytes, the others as words. -/
theorem directModesGiveTheAddress : Obligations.DirectModesGiveTheAddress := by
  intro b1 b2 s
  refine ⟨?_, ?_, ?_, ?_, indexed_word b2 b1 s.x s, indexed_word b2 b1 s.y s⟩
  · rw [Mode.resolve, zext16_eq_ofNat]
  · rw [Mode.resolve, zext16_eq_ofNat, BitVec.toNat_add]
  · rw [Mode.resolve, zext16_eq_ofNat, BitVec.toNat_add]
  · rw [Mode.resolve, word_eq]

/-- Settles O19: both pointers are two reads of work RAM in page zero. -/
theorem pointerModesWrapInPageZero : Obligations.PointerModesWrapInPageZero := by
  have hnext : ∀ b : Byte, (b + 1).toNat = (b.toNat + 1) % 256 := fun b => BitVec.toNat_add b 1
  intro b1 s
  constructor
  · have hlow : (b1 + s.x).toNat = (b1.toNat + s.x.toNat) % 256 := BitVec.toNat_add b1 s.x
    simp only [Mode.resolve, read16SamePage_zext16, word_eq, hnext, hlow, Nat.mod_add_mod]
  · simp only [Mode.resolve, read16SamePage_zext16, indexed_word, hnext]

end Sys2Proof.Machine
end

section
/-! PROOFS. What an instruction costs (O28): one rule per shape of instruction, then the table. -/

namespace Sys2Proof.Machine

open Sys2Proof.Claims

/-! ## The clock is left alone by stack, pointers and address resolution -/

theorem push8_cyc (v : Byte) (s : State) : (push8 v s).cyc = s.cyc := by rw [push8_eq]

theorem pull8_cyc (s : State) : (pull8 s).2.cyc = s.cyc := by rw [pull8_eq]

theorem push16_cyc (w : Addr) (s : State) : (push16 w s).cyc = s.cyc := by rw [push16_eq]

theorem pull16_cyc (s : State) : (pull16 s).2.cyc = s.cyc := by rw [pull16_eq]

theorem read16SamePage_cyc (a : Addr) (s : State) : (read16SamePage a s).2.cyc = s.cyc :=
  (read8_cyc _ _).trans (read8_cyc _ _)

theorem returnFromInterrupt_cyc (s : State) : (returnFromInterrupt s).cyc = s.cyc := by rw [returnFromInterrupt_eq]

theorem resolve_cyc (m : Mode) (s : State) : (m.resolve s).st.cyc = s.cyc := by
  obtain ⟨d, hd⟩ := resolve_st m s
  rw [hd, State.setDb_cyc]

/-- Moving PC moves no operand: an address depends on the index registers and the pointer bytes (R315). -/
theorem resolve_advance_ea (m : Mode) (n : Nat) (s : State) : (m.resolve (advance n s)).ea = (m.resolve s).ea := by
  cases m with
  | izx b1 => simp only [Mode.resolve, read16SamePage_zext16, advance_x, advance_ram]
  | izy b1 => simp only [Mode.resolve, read16SamePage_zext16, indexed, advance_y, advance_ram]
  | _ => rfl

/-! ## Costs by shape -/

/-- From `s` the result is a next state, 2 to 8 cycles on and those of the sprite DMA besides where the operand of the
store, if there is one, is the DMA register (R320, R232). -/
def Costs (m : Option Mode) (s : State) (r : Result) : Prop :=
  ∃ t cost, r = .next t ∧ 2 ≤ cost ∧ cost ≤ 8 ∧
    t.cyc = s.cyc + cost + (if m.map (fun m => (m.resolve s).ea) = some 0x4014 then 513 + (s.cyc + cost) % 2 else 0)

section

variable {s : State} {m : Mode} {base : Nat}

/-- Without a store the cost is what is charged. -/
theorem costs_of_charge {u : State} (hbase : 2 ≤ base ∧ base ≤ 8) (hu : u.cyc = s.cyc) :
    Costs none s (.next (charge base u)) := by
  obtain ⟨h2, h8⟩ := hbase
  exact ⟨_, base, rfl, h2, h8, by simp [hu]⟩

/-- With a store the sprite DMA is charged with it, where the store goes to the DMA register. -/
theorem costs_of_charge_dma {u : State} (hbase : 2 ≤ base ∧ base ≤ 8) (hu : u.cyc = s.cyc) :
    Costs (some m) s (.next (charge (base + dmaCost (m.resolve (advance m.length s)).ea s.cyc base) u)) := by
  obtain ⟨h2, h8⟩ := hbase
  refine ⟨_, base, rfl, h2, h8, ?_⟩
  simp only [charge_cyc, hu, dmaCost, route_dma_iff, resolve_advance_ea, Option.map_some, Option.some.injEq,
    Nat.add_assoc]

theorem costs_plain {len : Nat} {f : State → State} (hbase : 2 ≤ base ∧ base ≤ 8) (hf : ∀ t, (f t).cyc = t.cyc) :
    Costs none s (plain len base f s) :=
  costs_of_charge hbase (hf _)

/-- A page cross adds one cycle at most (R321). -/
theorem base_add_cross_bounds {c : Bool} (hbase : 2 ≤ base ∧ base ≤ 7) : 2 ≤ base + c.toNat ∧ base + c.toNat ≤ 8 := by
  have := Bool.toNat_le c
  omega

theorem costs_reads {plusP : Bool} {f : Byte → State → State} (hbase : 2 ≤ base ∧ base ≤ 7)
    (hf : ∀ v t, (f v t).cyc = t.cyc) : Costs none s (reads m base plusP f s) :=
  costs_of_charge (base_add_cross_bounds hbase) ((hf _ _).trans ((read8_cyc _ _).trans (resolve_cyc m _)))

theorem costs_skips {plusP : Bool} (hbase : 2 ≤ base ∧ base ≤ 7) : Costs none s (skips m base plusP s) :=
  costs_of_charge (base_add_cross_bounds hbase) (resolve_cyc m _)

theorem costs_branches {cond : Bool} {b1 : Byte} : Costs none s (branches cond b1 s) := by
  cases cond with
  | false => exact costs_of_charge (by decide) rfl
  | true => exact costs_of_charge (base_add_cross_bounds (by decide)) rfl

theorem costs_modifiesA {f : Byte → State → Byte × State} {g : Byte → State → State} (hbase : 2 ≤ base ∧ base ≤ 8)
    (hf : ∀ v t, (f v t).2.cyc = t.cyc) (hg : ∀ v t, (g v t).cyc = t.cyc) : Costs none s (modifiesA base f g s) :=
  costs_plain hbase fun t => (hg _ _).trans (hf t.a t)

theorem costs_stores {src : State → Byte} (hbase : 2 ≤ base ∧ base ≤ 8) : Costs (some m) s (stores m base src s) :=
  costs_of_charge_dma hbase ((write8_cyc _ _ _).trans (resolve_cyc m _))

theorem costs_modifies {f : Byte → State → Byte × State} {g : Byte → State → State} (hbase : 2 ≤ base ∧ base ≤ 8)
    (hf : ∀ v t, (f v t).2.cyc = t.cyc) (hg : ∀ v t, (g v t).cyc = t.cyc) :
    Costs (some m) s (modifies m base f g s) :=
  costs_of_charge_dma hbase
    ((hg _ _).trans ((write8_cyc _ _ _).trans ((hf _ _).trans ((read8_cyc _ _).trans (resolve_cyc m _)))))

end

/-- Every row of the opcode table is one of the shapes, with base cycles in the bounds and the mode `storeMode`
names. -/
theorem costs_exec {i : Instr} (hi : ∀ op, i ≠ .undecodable op) (s : State) : Costs (storeMode i) s (exec i s) := by
  unfold exec
  cases i with
  | undecodable op => exact absurd rfl (hi op)
  | brk => exact costs_plain (by decide) fun _ => enterInterrupt_cyc _ _ _ _ _
  | rti => exact costs_plain (by decide) fun _ => returnFromInterrupt_cyc _
  | php | pha => exact costs_plain (by decide) fun _ => push8_cyc _ _
  | pla | plp => exact costs_plain (by decide) fun _ => pull8_cyc _
  | jsr => exact costs_plain (by decide) fun _ => push16_cyc _ _
  | rts => exact costs_plain (by decide) fun _ => pull16_cyc _
  | jmpInd => exact costs_plain (by decide) fun _ => read16SamePage_cyc _ _
  | oraImm | clc | nop1A | andImm | sec | nop3A | eorImm | jmpAbs | cli | nop5A | adcImm | sei | nop7A | nopImm80
  | nopImm82 | dey | nopImm89 | txa | tya | txs | ldyImm | ldxImm | tay | ldaImm | tax | clv | tsx | cpyImm
  | nopImmC2 | iny | cmpImm | dex | cld | nopDA | cpxImm | nopImmE2 | inx | sbcImm | nop | sbcImmEB | sed | nopFA =>
    exact costs_plain (by decide) fun _ => rfl
  | aslAcc | rolAcc | lsrAcc | rorAcc => exact costs_modifiesA (by decide) (fun _ _ => rfl) fun _ _ => rfl
  | bpl | bmi | bvc | bvs | bcc | bcs | bne | beq => exact costs_branches
  | nopZp04 | nopAbs0C | nopZpx14 | nopAbx1C | nopZpx34 | nopAbx3C | nopZp44 | nopZpx54 | nopAbx5C | nopZp64
  | nopZpx74 | nopAbx7C | nopZpxD4 | nopAbxDC | nopZpxF4 | nopAbxFC => exact costs_skips (by decide)
  | staIzx | saxIzx | styZp | staZp | stxZp | saxZp | styAbs | staAbs | stxAbs | saxAbs | staIzy | styZpx | staZpx
  | stxZpy | saxZpy | staAby | staAbx => exact costs_stores (by decide)
  | sloIzx | aslZp | sloZp | aslAbs | sloAbs | sloIzy | aslZpx | sloZpx | sloAby | aslAbx | sloAbx | rlaIzx | rolZp
  | rlaZp | rolAbs | rlaAbs | rlaIzy | rolZpx | rlaZpx | rlaAby | rolAbx | rlaAbx | sreIzx | lsrZp | sreZp | lsrAbs
  | sreAbs | sreIzy | lsrZpx | sreZpx | sreAby | lsrAbx | sreAbx | rraIzx | rorZp | rraZp | rorAbs | rraAbs
  | rraIzy | rorZpx | rraZpx | rraAby | rorAbx | rraAbx | dcpIzx | decZp | dcpZp | decAbs | dcpAbs | dcpIzy
  | decZpx | dcpZpx | dcpAby | decAbx | dcpAbx | iscIzx | incZp | iscZp | incAbs | iscAbs | iscIzy | incZpx
  | iscZpx | iscAby | incAbx | iscAbx => exact costs_modifies (by decide) (fun _ _ => rfl) fun _ _ => rfl
  | _ => exact costs_reads (by decide) fun _ _ => rfl

/-- Settles O28: the undecodable instruction latches its fault and leaves the clock; every other row is a shape that
costs 2 to 8 cycles. -/
theorem instructionCostIsBounded : Obligations.InstructionCostIsBounded := by
  refine fun i s => ⟨?_, fun hi => costs_exec hi s⟩
  rintro op rfl
  exact ⟨_, rfl, raise_cyc s _⟩

end Sys2Proof.Machine
end

section
/-! PROOFS. The statements' shapes of instruction from the model's: what a meaning built by `plain`, `reads` or `stores`
does to the CPU, to the clock, to the devices and to memory, once for every row of the opcode table. -/

namespace Sys2Proof.Machine

open Sys2Proof.Claims

/-! ## Registers and clock replaced -/

theorem restOf_refl (s : State) : RestOf s s :=
  ⟨rfl, rfl, rfl, rfl, rfl, rfl, rfl, rfl, rfl, rfl, rfl, rfl, rfl, rfl, rfl, rfl⟩

@[simp] theorem State.withCpu_cyc (s : State) (c : Cpu) (n : Nat) : (s.withCpu c n).cyc = n := rfl

/-- No register and no clock is a byte of memory. -/
@[simp] theorem memByte_withCpu (s : State) (c : Cpu) (n : Nat) (a : Addr) : memByte (s.withCpu c n) a = memByte s a :=
  memByte_congr rfl rfl rfl a

@[simp] theorem memByte_charge (n : Nat) (s : State) (a : Addr) : memByte (charge n s) a = memByte s a :=
  memByte_congr rfl rfl rfl a

/-- An operation of the model does to the registers what `eff` says, and nothing else to the state. -/
def ActsOnCpu (f : State → State) (eff : Cpu → Cpu) : Prop := ∀ s, f s = s.withCpu (eff s.cpu) s.cyc

/-! ## Resolving an address -/

@[simp] theorem resolve_cpu (m : Mode) (s : State) : (m.resolve s).st.cpu = s.cpu := by
  obtain ⟨d, hd⟩ := resolve_st m s
  rw [hd]
  rfl

@[simp] theorem memByte_resolve (m : Mode) (s : State) (a : Addr) : memByte (m.resolve s).st a = memByte s a := by
  obtain ⟨d, hd⟩ := resolve_st m s
  rw [hd]
  exact memByte_congr rfl rfl rfl a

theorem resolve_ram (m : Mode) (s : State) : (m.resolve s).st.ram = s.ram := by
  obtain ⟨d, hd⟩ := resolve_st m s
  rw [hd, State.setDb_ram]

theorem resolve_cart (m : Mode) (s : State) : (m.resolve s).st.cart = s.cart := by
  obtain ⟨d, hd⟩ := resolve_st m s
  rw [hd, State.setDb_cart]

/-! ## Memory after a store -/

/-- One bus write is a store: the addresses that name a work RAM cell are those the decoder gives it (R203), and with
the fixed mapping the cartridge window stores nothing (R208, R247). -/
theorem memoryAfterStore_write8 (a : Addr) (v : Byte) (s : State) : MemoryAfterStore s (write8 a v s) a v := by
  refine ⟨fun ha hr => ?_, fun hout b hb => ?_, fun hf ha b => ?_⟩
  · exact memByte_write8_same v s hr (route_ram ha) (route_ram ha)
  · refine memByte_write8 v s (hout.imp_right fun ha hc => ?_) fun i hai hbi => hb (.inr ?_)
    · exact absurd (route_cartridge_iff.1 hc) (Nat.not_le.2 ha)
    · obtain ⟨ha, hai⟩ := route_ram_iff.1 hai
      obtain ⟨hb, hbi⟩ := route_ram_iff.1 hbi
      exact ⟨hb, ha, hbi.trans hai.symm⟩
  · exact memByte_write8 v s (.inl hf) fun i hai => absurd hai (route_ne_ram ha i)

/-- What comes before a store and after it, and changes no memory, does not change what the store does. -/
theorem memoryAfterStore_congr {s s' t t' : State} {a : Addr} {v : Byte} (hram : s'.ram = s.ram)
    (hcart : s'.cart = s.cart) (hs : MemoryKept s s') (ht : MemoryKept t t') (h : MemoryAfterStore s' t a v) :
    MemoryAfterStore s t' a v := by
  obtain ⟨hcell, hothers, hwindow⟩ := h
  rw [hram] at hcell
  rw [hcart] at hothers hwindow
  exact ⟨fun ha hr => (ht a).trans (hcell ha hr),
    fun hout b hb => (ht b).trans ((hothers hout b hb).trans (hs b)),
    fun hf ha b => (ht b).trans ((hwindow hf ha b).trans (hs b))⟩

/-! ## The shapes -/

section

variable {bytes : List Byte} {i : Instr} {base : Nat}

/-- Moving PC past the instruction is the statements' address of the next one. -/
theorem advance_eq_setPc_after {n : Nat} (hlen : bytes.length = n) (s : State) :
    advance n s = s.setPc (after bytes s) := by
  rw [advance, after, hlen]

/-- A row without a memory operand: what its operation does to the registers (R320). -/
theorem registers_of_plain {f : State → State} {eff : Cpu → Cpu} (hf : ActsOnCpu f eff)
    (hdecode : decode bytes = .ok (i, []) := by rfl) (hexec : exec i = plain bytes.length base f := by rfl) :
    Registers bytes i base eff := by
  refine ⟨hdecode, fun s => ⟨_, congrFun hexec s, ?_⟩⟩
  rw [advance_eq_setPc_after rfl, hf]
  exact ⟨rfl, rfl, restOf_refl s, memByte_congr rfl rfl rfl⟩

/-- A row that reads its operand: the address is resolved and the byte read before the operation, and neither touches a
register, the clock or a byte of memory (R214, R315). -/
theorem reads_of_reads {m : Mode} {plusP : Bool} {f : Byte → State → State} {eff : Byte → Cpu → Cpu}
    (hf : ∀ v, ActsOnCpu (f v) (eff v)) (hdecode : decode bytes = .ok (i, []) := by rfl)
    (hlen : bytes.length = m.length := by rfl) (hexec : exec i = reads m base plusP f := by rfl) :
    Reads bytes i m base plusP eff := by
  refine ⟨hdecode, fun s => ⟨_, congrFun hexec s, ?_⟩⟩
  rw [advance_eq_setPc_after hlen, hf]
  generalize hr : m.resolve (s.setPc (after bytes s)) = r
  have hcpu : (read8 r.ea r.st).2.cpu = { s.cpu with pc := after bytes s } := by
    rw [read8_cpu, ← hr, resolve_cpu]
    rfl
  have hcyc : (read8 r.ea r.st).2.cyc = s.cyc := by
    rw [read8_cyc, ← hr, resolve_cyc, State.setPc_cyc]
  have hcross : (plusP && r.crossed).toNat = if plusP = true ∧ r.crossed = true then 1 else 0 := by
    cases plusP <;> cases r.crossed <;> rfl
  refine ⟨?_, ?_, restOf_refl _, fun a => ?_⟩
  · exact congrArg (eff _) hcpu
  · rw [charge_cyc, State.withCpu_cyc, hcyc, hcross, Nat.add_assoc]
  · rw [memByte_charge, memByte_withCpu, memByte_read8, ← hr, memByte_resolve]
    exact memByte_congr rfl rfl rfl a

/-- A row that stores: the one bus write leaves registers and clock, and the sprite DMA is charged where the address is
the DMA register (R213, R232). -/
theorem stores_of_stores {m : Mode} {src : Cpu → Byte} (hdecode : decode bytes = .ok (i, []) := by rfl)
    (hlen : bytes.length = m.length := by rfl) (hexec : exec i = stores m base (fun s => src s.cpu) := by rfl) :
    Stores bytes i m base src := by
  refine ⟨hdecode, fun s => ⟨_, congrFun hexec s, ?_⟩⟩
  rw [advance_eq_setPc_after hlen]
  generalize hr : m.resolve (s.setPc (after bytes s)) = r
  refine ⟨?_, ?_, restOf_refl _, ?_⟩
  · calc (write8 r.ea (src s.cpu) r.st).cpu = r.st.cpu := write8_cpu _ _ _
      _ = (s.setPc (after bytes s)).cpu := by rw [← hr, resolve_cpu]
  · rw [charge_cyc, write8_cyc, ← hr, resolve_cyc, State.setPc_cyc, dmaCost, Nat.add_assoc]
    simp only [route_dma_iff]
  · refine memoryAfterStore_congr ?_ ?_ (fun a => ?_) (fun a => memByte_charge _ _ a)
      (memoryAfterStore_write8 r.ea (src s.cpu) r.st)
    · rw [← hr, resolve_ram, State.setPc_ram]
    · rw [← hr, resolve_cart, State.setPc_cart]
    · rw [← hr, memByte_resolve]
      exact memByte_congr rfl rfl rfl a

end

end Sys2Proof.Machine
end

section
/-! PROOFS. Loads (O1), stores (O2) and register transfers (O3). -/

namespace Sys2Proof.Machine

open Sys2Proof.Claims

/-! ## What a load does to the registers (R401 to R403, R514) -/

/-- `setZN` on numbers: bit 7 is set from 128 on (R15). -/
theorem zn_eq (p : Flags) (v : Byte) : p.zn v = Claims.zn v p := by
  rw [Flags.zn, Claims.zn, bit7_eq]

theorem loadA_actsOnCpu (m : Byte) : ActsOnCpu (loadA m) (ldA m) :=
  fun s => by rw [ldA, ← zn_eq]; rfl

theorem loadX_actsOnCpu (m : Byte) : ActsOnCpu (loadX m) (ldX m) :=
  fun s => by rw [ldX, ← zn_eq]; rfl

theorem loadY_actsOnCpu (m : Byte) : ActsOnCpu (loadY m) (ldY m) :=
  fun s => by rw [ldY, ← zn_eq]; rfl

theorem loadAX_actsOnCpu (m : Byte) : ActsOnCpu (loadAX m) (ldAX m) :=
  fun s => by rw [ldAX, ← zn_eq]; rfl

/-- An operation whose operand is a register does what it does with that register's byte. -/
theorem actsOnCpu_of_register {f : Byte → State → State} {eff : Byte → Cpu → Cpu}
    (hf : ∀ m, ActsOnCpu (f m) (eff m)) {r : Cpu → Byte} : ActsOnCpu (fun s => f (r s.cpu) s) (fun c => eff (r c) c) :=
  fun s => hf (r s.cpu) s

/-! ## The statements -/

/-- Settles O1: every row reads its byte once and loads it. -/
theorem loadsReadOneByte : Obligations.LoadsReadOneByte := fun _ _ =>
  ⟨reads_of_reads loadA_actsOnCpu, reads_of_reads loadA_actsOnCpu, registers_of_plain (loadA_actsOnCpu _),
    reads_of_reads loadA_actsOnCpu, reads_of_reads loadA_actsOnCpu, reads_of_reads loadA_actsOnCpu,
    reads_of_reads loadA_actsOnCpu, reads_of_reads loadA_actsOnCpu,
    registers_of_plain (loadX_actsOnCpu _), reads_of_reads loadX_actsOnCpu, reads_of_reads loadX_actsOnCpu,
    reads_of_reads loadX_actsOnCpu, reads_of_reads loadX_actsOnCpu,
    registers_of_plain (loadY_actsOnCpu _), reads_of_reads loadY_actsOnCpu, reads_of_reads loadY_actsOnCpu,
    reads_of_reads loadY_actsOnCpu, reads_of_reads loadY_actsOnCpu,
    reads_of_reads loadAX_actsOnCpu, reads_of_reads loadAX_actsOnCpu, reads_of_reads loadAX_actsOnCpu,
    reads_of_reads loadAX_actsOnCpu, reads_of_reads loadAX_actsOnCpu, reads_of_reads loadAX_actsOnCpu⟩

/-- Settles O2: every row is one bus write of a byte of the registers. -/
theorem storesWriteOneByte : Obligations.StoresWriteOneByte := fun _ _ =>
  ⟨stores_of_stores, stores_of_stores, stores_of_stores, stores_of_stores, stores_of_stores, stores_of_stores,
    stores_of_stores, stores_of_stores, stores_of_stores, stores_of_stores, stores_of_stores, stores_of_stores,
    stores_of_stores, stores_of_stores, stores_of_stores, stores_of_stores, stores_of_stores⟩

/-- Settles O3: every row but TXS is a load whose operand is a register. -/
theorem transfersCopyOneRegister : Obligations.TransfersCopyOneRegister :=
  ⟨registers_of_plain (actsOnCpu_of_register loadX_actsOnCpu),
    registers_of_plain (actsOnCpu_of_register loadY_actsOnCpu),
    registers_of_plain (actsOnCpu_of_register loadA_actsOnCpu),
    registers_of_plain (actsOnCpu_of_register loadA_actsOnCpu),
    registers_of_plain (actsOnCpu_of_register loadX_actsOnCpu),
    registers_of_plain fun _ => rfl⟩

end Sys2Proof.Machine
end

section
/-! PROOFS. The statements' shape of a read-modify-write instruction from the model's `modifies` (R213, R222), once for
every row of the opcode table. -/

namespace Sys2Proof.Machine

open Sys2Proof.Claims

/-- An operation of the model gives the byte that `change` gives of the byte read and the carry, and does nothing to
the state but set the carry that leaves, where there is one. -/
def ActsOnByte (f : Byte → State → Byte × State) (change : Byte → Bool → Byte × Option Bool) : Prop :=
  ∀ v s, f v s = ((change v s.p.c).1, s.setP (carry (change v s.p.c).2 s.p))

/-- A row that reads, changes and writes one byte: the change sets at most the carry, which the write does not see, and
the sprite DMA is charged where the address is the DMA register (R213, R222, R232). -/
theorem modifies_of_modifies {bytes : List Byte} {i : Instr} {m : Mode} {base : Nat}
    {f : Byte → State → Byte × State} {change : Byte → Bool → Byte × Option Bool}
    {g : Byte → State → State} {eff : Byte → Cpu → Cpu}
    (hf : ActsOnByte f change) (hg : ∀ v, ActsOnCpu (g v) (eff v)) (hdecode : decode bytes = .ok (i, []) := by rfl)
    (hlen : bytes.length = m.length := by rfl) (hexec : exec i = modifies m base f g := by rfl) :
    Modifies bytes i m base change eff := by
  refine ⟨hdecode, fun s => ⟨_, congrFun hexec s, ?_⟩⟩
  rw [advance_eq_setPc_after hlen, hf, hg, write8_setP]
  generalize hr : m.resolve (s.setPc (after bytes s)) = r
  dsimp only
  generalize hv : read8 r.ea r.st = v
  have hcpu : v.2.cpu = { s.cpu with pc := after bytes s } := by
    rw [← hv, read8_cpu, ← hr, resolve_cpu]
    rfl
  have hp : v.2.p = s.p := congrArg Cpu.p hcpu
  have hcyc : v.2.cyc = s.cyc := by
    rw [← hv, read8_cyc, ← hr, resolve_cyc, State.setPc_cyc]
  rw [hp]
  generalize change v.1 s.p.c = w
  have hwritten : (write8 r.ea w.1 v.2).cpu = { s.cpu with pc := after bytes s } := (write8_cpu _ _ _).trans hcpu
  refine ⟨?_, ?_, restOf_refl _, ?_⟩
  · exact congrArg (fun c : Cpu => eff w.1 { c with p := carry w.2 s.p }) hwritten
  · rw [charge_cyc, State.withCpu_cyc, State.setP_cyc, write8_cyc, hcyc, dmaCost, Nat.add_assoc]
    simp only [route_dma_iff]
  · refine memoryAfterStore_congr ?_ ?_ (fun a => ?_) (fun a => memByte_congr rfl rfl rfl a)
      (memoryAfterStore_write8 r.ea w.1 v.2)
    · rw [← hv, read8_ram, ← hr, resolve_ram, State.setPc_ram]
    · rw [← hv, read8_cart, ← hr, resolve_cart, State.setPc_cart]
    · rw [← hv, memByte_read8, ← hr, memByte_resolve]
      exact memByte_congr rfl rfl rfl a

end Sys2Proof.Machine
end

section
/-! PROOFS. Addition (O4), subtraction (O5), logic, compares and tests (O6), increments and decrements (O7). -/

namespace Sys2Proof.Machine

open Sys2Proof.Claims

/-! ## Arithmetic (R421, R422, R436) -/

/-- The overflow expression of R436 says that the signed sum leaves the range. -/
theorem adcFlags_eq (p : Flags) (a m : Byte) :
    adcFlags p a m = { Claims.zn (adcResult a m p.c) p with
      c := decide (256 ≤ adcSum a m p.c)
      v := signedOverflow (a.toInt + m.toInt + p.c.toNat) } := by
  rw [adcFlags, adc_overflow, zn_eq]
  rfl

theorem addA_actsOnCpu (m : Byte) : ActsOnCpu (addA m) (adc m) :=
  fun s => by rw [addA, adcFlags_eq]; rfl

/-- Adding the complement is subtracting with the borrow (R422). -/
theorem adc_xorFF (m : Byte) (c : Cpu) : adc (m ^^^ 0xFF) c = sbc m c := by
  have hbyte : BitVec.ofNat 8 (c.a.toNat + (m ^^^ 0xFF).toNat + c.p.c.toNat) = _ := adcResult_xorFF c.a m c.p.c
  have hcarry : decide (256 ≤ c.a.toNat + (m ^^^ 0xFF).toNat + c.p.c.toNat) = _ := adcSum_xorFF c.a m c.p.c
  have hsigned : c.a.toInt + (m ^^^ 0xFF).toInt + c.p.c.toNat = c.a.toInt - m.toInt - (1 - c.p.c.toNat) := by
    rw [xorFF_toInt]
    ring
  simp only [adc, sbc, hbyte, hcarry, hsigned]

theorem subA_actsOnCpu (m : Byte) : ActsOnCpu (subA m) (sbc m) :=
  fun s => by rw [subA, addA_actsOnCpu, adc_xorFF]

/-! ## Logic (R423 to R425): a load of the combined byte -/

theorem andA_actsOnCpu (m : Byte) : ActsOnCpu (andA m) (logicAnd m) := fun s => loadA_actsOnCpu (s.a &&& m) s

theorem orA_actsOnCpu (m : Byte) : ActsOnCpu (orA m) (logicOr m) := fun s => loadA_actsOnCpu (s.a ||| m) s

theorem xorA_actsOnCpu (m : Byte) : ActsOnCpu (xorA m) (logicXor m) := fun s => loadA_actsOnCpu (s.a ^^^ m) s

/-! ## Compares and tests (R426 to R429) -/

/-- A compare of any register sets the flags on numbers that the statements give it. -/
theorem setP_cmpFlags (r m : Byte) (s : State) :
    s.setP (cmpFlags s.p r m) = s.withCpu (compareWith r m s.cpu) s.cyc := by
  rw [cmpFlags, bit7_eq]
  rfl

theorem compareA_actsOnCpu (m : Byte) : ActsOnCpu (compareA m) (cmp m) := fun s => setP_cmpFlags s.a m s

theorem compareX_actsOnCpu (m : Byte) : ActsOnCpu (compareX m) (cpx m) := fun s => setP_cmpFlags s.x m s

theorem compareY_actsOnCpu (m : Byte) : ActsOnCpu (compareY m) (cpy m) := fun s => setP_cmpFlags s.y m s

theorem testBits_actsOnCpu (m : Byte) : ActsOnCpu (testBits m) (bitTest m) :=
  fun s => by rw [testBits, bitFlags, bit7_eq, bit6_eq]; rfl

/-! ## Increments and decrements (R430 to R435) -/

theorem add_one_eq_ofNat (m : Byte) : m + 1 = BitVec.ofNat 8 (m.toNat + 1) := by bv_omega

theorem sub_one_eq_ofNat (m : Byte) : m - 1 = BitVec.ofNat 8 (m.toNat + 255) := by bv_omega

theorem incByte_actsOnByte : ActsOnByte incByte inc :=
  fun m _ => by rw [incByte, add_one_eq_ofNat]; rfl

theorem decByte_actsOnByte : ActsOnByte decByte dec :=
  fun m _ => by rw [decByte, sub_one_eq_ofNat]; rfl

theorem flagsOf_actsOnCpu (r : Byte) : ActsOnCpu (flagsOf r) (zeroNeg r) :=
  fun s => by rw [zeroNeg, ← zn_eq]; rfl

/-- A load of a register's byte, stepped: the statements' step is the model's. -/
theorem actsOnCpu_of_step {f : Byte → State → State} {eff : Byte → Cpu → Cpu} (hf : ∀ m, ActsOnCpu (f m) (eff m))
    {step change : Byte → Byte} (h : ∀ m, step m = change m) {r : Cpu → Byte} :
    ActsOnCpu (fun s => f (step (r s.cpu)) s) (fun c => eff (change (r c)) c) :=
  fun s => by simp only [h]; exact hf _ s

/-! ## The statements -/

/-- Settles O4: every row adds its byte, and the overflow expression is the signed overflow of the sum. -/
theorem addWithCarryIsTheSum : Obligations.AddWithCarryIsTheSum := fun _ _ =>
  ⟨reads_of_reads addA_actsOnCpu, reads_of_reads addA_actsOnCpu, registers_of_plain (addA_actsOnCpu _),
    reads_of_reads addA_actsOnCpu, reads_of_reads addA_actsOnCpu, reads_of_reads addA_actsOnCpu,
    reads_of_reads addA_actsOnCpu, reads_of_reads addA_actsOnCpu⟩

/-- Settles O5: every row adds the complement of its byte, which subtracts the byte and the borrow. -/
theorem subtractWithBorrowIsTheDifference : Obligations.SubtractWithBorrowIsTheDifference := fun _ _ =>
  ⟨reads_of_reads subA_actsOnCpu, reads_of_reads subA_actsOnCpu, registers_of_plain (subA_actsOnCpu _),
    registers_of_plain (subA_actsOnCpu _), reads_of_reads subA_actsOnCpu, reads_of_reads subA_actsOnCpu,
    reads_of_reads subA_actsOnCpu, reads_of_reads subA_actsOnCpu, reads_of_reads subA_actsOnCpu⟩

/-- Settles O6: the logic rows load the combined byte; the compares and BIT set flags only. -/
theorem logicAndCompareInstructions : Obligations.LogicAndCompareInstructions :=
  ⟨fun _ _ =>
    ⟨reads_of_reads andA_actsOnCpu, reads_of_reads andA_actsOnCpu, registers_of_plain (andA_actsOnCpu _),
      reads_of_reads andA_actsOnCpu, reads_of_reads andA_actsOnCpu, reads_of_reads andA_actsOnCpu,
      reads_of_reads andA_actsOnCpu, reads_of_reads andA_actsOnCpu,
      reads_of_reads orA_actsOnCpu, reads_of_reads orA_actsOnCpu, registers_of_plain (orA_actsOnCpu _),
      reads_of_reads orA_actsOnCpu, reads_of_reads orA_actsOnCpu, reads_of_reads orA_actsOnCpu,
      reads_of_reads orA_actsOnCpu, reads_of_reads orA_actsOnCpu,
      reads_of_reads xorA_actsOnCpu, reads_of_reads xorA_actsOnCpu, registers_of_plain (xorA_actsOnCpu _),
      reads_of_reads xorA_actsOnCpu, reads_of_reads xorA_actsOnCpu, reads_of_reads xorA_actsOnCpu,
      reads_of_reads xorA_actsOnCpu, reads_of_reads xorA_actsOnCpu⟩,
   fun _ _ =>
    ⟨reads_of_reads compareA_actsOnCpu, reads_of_reads compareA_actsOnCpu, registers_of_plain (compareA_actsOnCpu _),
      reads_of_reads compareA_actsOnCpu, reads_of_reads compareA_actsOnCpu, reads_of_reads compareA_actsOnCpu,
      reads_of_reads compareA_actsOnCpu, reads_of_reads compareA_actsOnCpu,
      registers_of_plain (compareX_actsOnCpu _), reads_of_reads compareX_actsOnCpu, reads_of_reads compareX_actsOnCpu,
      registers_of_plain (compareY_actsOnCpu _), reads_of_reads compareY_actsOnCpu, reads_of_reads compareY_actsOnCpu,
      reads_of_reads testBits_actsOnCpu, reads_of_reads testBits_actsOnCpu⟩⟩

/-- Settles O7: the memory rows step the byte between one read and one write; the register rows load the stepped
register. -/
theorem incrementsWrap : Obligations.IncrementsWrap :=
  ⟨fun _ _ =>
    ⟨modifies_of_modifies incByte_actsOnByte flagsOf_actsOnCpu,
      modifies_of_modifies incByte_actsOnByte flagsOf_actsOnCpu,
      modifies_of_modifies incByte_actsOnByte flagsOf_actsOnCpu,
      modifies_of_modifies incByte_actsOnByte flagsOf_actsOnCpu,
      modifies_of_modifies decByte_actsOnByte flagsOf_actsOnCpu,
      modifies_of_modifies decByte_actsOnByte flagsOf_actsOnCpu,
      modifies_of_modifies decByte_actsOnByte flagsOf_actsOnCpu,
      modifies_of_modifies decByte_actsOnByte flagsOf_actsOnCpu⟩,
    registers_of_plain (actsOnCpu_of_step loadX_actsOnCpu add_one_eq_ofNat),
    registers_of_plain (actsOnCpu_of_step loadY_actsOnCpu add_one_eq_ofNat),
    registers_of_plain (actsOnCpu_of_step loadX_actsOnCpu sub_one_eq_ofNat),
    registers_of_plain (actsOnCpu_of_step loadY_actsOnCpu sub_one_eq_ofNat)⟩

end Sys2Proof.Machine
end

section
/-! PROOFS. Shifts and rotates by one place, of memory and of the accumulator (O8). -/

namespace Sys2Proof.Machine

open Sys2Proof.Claims

/-! ## The change of a byte (R451 to R454): doubled or halved, and the bit that leaves -/

theorem aslByte_actsOnByte : ActsOnByte aslByte asl :=
  fun m _ => by rw [aslByte, aslResult_eq, bit7_eq]; rfl

theorem lsrByte_actsOnByte : ActsOnByte lsrByte lsr :=
  fun m _ => by rw [lsrByte, lsrResult_eq, bit0_eq]; rfl

theorem rolByte_actsOnByte : ActsOnByte rolByte rol :=
  fun m _ => by rw [rolByte, rolResult_eq, bit7_eq]; rfl

theorem rorByte_actsOnByte : ActsOnByte rorByte ror :=
  fun m _ => by rw [rorByte, rorResult_eq, bit0_eq]; rfl

/-! ## The accumulator form -/

/-- A change of A: the change sets at most the carry, which the write of A and the flags of the byte written keep. -/
theorem actsOnCpu_of_actsOnByte {f : Byte → State → Byte × State} {change : Byte → Bool → Byte × Option Bool}
    (hf : ActsOnByte f change) :
    ActsOnCpu (fun s => let w := f s.a s; flagsOf w.1 (w.2.setA w.1)) (onA change) := fun s => by
  dsimp only
  rw [hf, flagsOf_actsOnCpu]
  rfl

/-! ## The statement -/

/-- Settles O8: the memory rows change the byte between one read and one write; the accumulator rows change A and make
no access. -/
theorem shiftsMoveOneBitThroughCarry : Obligations.ShiftsMoveOneBitThroughCarry := fun _ _ =>
  ⟨modifies_of_modifies aslByte_actsOnByte flagsOf_actsOnCpu,
    registers_of_plain (actsOnCpu_of_actsOnByte aslByte_actsOnByte),
    modifies_of_modifies aslByte_actsOnByte flagsOf_actsOnCpu,
    modifies_of_modifies aslByte_actsOnByte flagsOf_actsOnCpu,
    modifies_of_modifies aslByte_actsOnByte flagsOf_actsOnCpu,
    modifies_of_modifies lsrByte_actsOnByte flagsOf_actsOnCpu,
    registers_of_plain (actsOnCpu_of_actsOnByte lsrByte_actsOnByte),
    modifies_of_modifies lsrByte_actsOnByte flagsOf_actsOnCpu,
    modifies_of_modifies lsrByte_actsOnByte flagsOf_actsOnCpu,
    modifies_of_modifies lsrByte_actsOnByte flagsOf_actsOnCpu,
    modifies_of_modifies rolByte_actsOnByte flagsOf_actsOnCpu,
    registers_of_plain (actsOnCpu_of_actsOnByte rolByte_actsOnByte),
    modifies_of_modifies rolByte_actsOnByte flagsOf_actsOnCpu,
    modifies_of_modifies rolByte_actsOnByte flagsOf_actsOnCpu,
    modifies_of_modifies rolByte_actsOnByte flagsOf_actsOnCpu,
    modifies_of_modifies rorByte_actsOnByte flagsOf_actsOnCpu,
    registers_of_plain (actsOnCpu_of_actsOnByte rorByte_actsOnByte),
    modifies_of_modifies rorByte_actsOnByte flagsOf_actsOnCpu,
    modifies_of_modifies rorByte_actsOnByte flagsOf_actsOnCpu,
    modifies_of_modifies rorByte_actsOnByte flagsOf_actsOnCpu⟩

end Sys2Proof.Machine
end

section
/-! PROOFS. Jumps, subroutine calls and returns (O9), and the eight branches (O10). -/

namespace Sys2Proof.Machine

open Sys2Proof.Claims

/-! ## Moving PC -/

@[simp] theorem charge_cpu (n : Nat) (s : State) : (charge n s).cpu = s.cpu := rfl

/-- PC is no byte of memory. -/
@[simp] theorem memByte_setPc (p a : Addr) (s : State) : memByte (s.setPc p) a = memByte s a :=
  memByte_congr rfl rfl rfl a

/-! ## Jumps (R461, R308) -/

theorem setPc_word_actsOnCpu (h l : Byte) :
    ActsOnCpu (fun s => s.setPc (word h l)) (fun c => { c with pc := BitVec.ofNat 16 (256 * h.toNat + l.toNat) }) :=
  fun s => by rw [word_eq]; rfl

/-- The high byte of a pointer is read on the page of the low byte, on numbers (R308). -/
theorem read16SamePage_word (h l : Byte) (s : State) :
    read16SamePage (word h l) s =
      let first := read8 (BitVec.ofNat 16 (256 * h.toNat + l.toNat)) s
      let second := read8 (BitVec.ofNat 16 (256 * h.toNat + (l.toNat + 1) % 256)) first.2
      (BitVec.ofNat 16 (256 * second.1.toNat + first.1.toNat), second.2) := by
  have hnext : (l + 1).toNat = (l.toNat + 1) % 256 := BitVec.toNat_add l 1
  rw [read16SamePage, hi_word, lo_word]
  simp only [word_eq, hnext]

/-! ## Bytes pulled (R106) -/

/-- The byte the statements name is the one a pull reads after `k` others. -/
theorem pulledByte_eq_pulled (s : State) (k : Nat) : pulledByte s k = pulled s k := by
  have htop : pullTop (s.setSp (s.sp + BitVec.ofNat 8 k)) = pullTop s + BitVec.ofNat 8 k := by
    apply pullTop_add <;> rfl
  rw [pulled, pullSlot, pullAddr_pageOne, htop, pulledByte]

/-- The address after the one pulled (R463). -/
theorem word_add_one (h l : Byte) : word h l + 1 = BitVec.ofNat 16 (256 * h.toNat + l.toNat + 1) := by
  rw [word_eq, BitVec.ofNat_add _ 1, BitVec.ofNat_eq_ofNat]

/-! ## The statement on jumps -/

/-- Settles O9: JMP sets PC; JSR pushes a word and then sets PC; RTS pulls a word and sets PC to the address after it. -/
theorem jumpsCallsAndReturns : Obligations.JumpsCallsAndReturns := by
  refine ⟨fun b1 b2 => ⟨registers_of_plain (f := fun s => s.setPc (word b2 b1)) (setPc_word_actsOnCpu b2 b1), rfl,
    fun s => ⟨_, rfl, ?jmpInd⟩⟩, fun b1 b2 => ⟨rfl, fun s => ⟨_, rfl, ?jsr⟩⟩, rfl, fun s => ⟨_, rfl, ?rts⟩⟩
  case jmpInd =>
    have hadvance : advance 3 s = s.setPc (s.pc + 3) := rfl
    simp only [read16SamePage_word, hadvance]
    refine ⟨?_, ?_, restOf_setPc_setCyc _ _ _, fun a => ?_⟩
    · rw [charge_cpu, State.setPc_cpu, read8_cpu, read8_cpu, State.setPc_cpu]
    · rw [charge_cyc, State.setPc_cyc, read8_cyc, read8_cyc, State.setPc_cyc]
    · rw [memByte_charge, memByte_setPc, memByte_read8, memByte_read8, memByte_setPc]
  case jsr =>
    simp only [push16_eq, word_eq]
    exact ⟨rfl, rfl, pushed_of_ram rfl rfl rfl (by simp), restOf_refl _⟩
  case rts =>
    have hpulled : ∀ k, pulledByte (advance 1 s) k = pulled s k := pulledByte_eq_pulled s
    simp only [pull16_eq, word_add_one, hpulled]
    exact ⟨rfl, rfl, restOf_refl _, memByte_congr rfl rfl rfl⟩

/-! ## Branches (R464) -/

/-- Sign extension on integers (R14). -/
theorem sext16_eq_ofInt (b : Byte) : sext16 b = BitVec.ofInt 16 b.toInt := by
  revert b
  decide

/-- The target of a branch on integers: the next instruction's address plus the signed displacement. -/
theorem add_sext16 (a : Addr) (b : Byte) : a + sext16 b = BitVec.ofInt 16 (a.toNat + b.toInt) := by
  rw [sext16_eq_ofInt, BitVec.ofInt_add, BitVec.ofInt_natCast, BitVec.ofNat_toNat, BitVec.setWidth_eq]

/-- Two addresses have one page exactly where their quotients by 256 agree (R13). -/
theorem hi_eq_hi_iff (a b : Addr) : hi a = hi b ↔ a.toNat / 256 = b.toNat / 256 := by
  rw [← BitVec.toNat_inj, hi_toNat, hi_toNat]

/-- A row that branches on a flag: the target and the page compared are those on numbers (R464, R322). -/
theorem branch_of_branches {op b1 : Byte} {i : Instr} {taken : Flags → Bool}
    (hdecode : decode [op, b1] = .ok (i, []) := by rfl)
    (hexec : exec i = fun s => branches (taken s.p) b1 s := by rfl) : Branch [op, b1] i b1 taken := by
  refine ⟨hdecode, fun s => ?_⟩
  have hnext : after [op, b1] s = s.pc + 2 := rfl
  simp only [hexec, branches, hnext, add_sext16, ne_eq, hi_eq_hi_iff]
  generalize BitVec.ofInt 16 ((s.pc + 2).toNat + b1.toInt) = target
  cases taken s.p with
  | false => exact ⟨_, rfl, rfl, rfl, restOf_refl s, memByte_congr rfl rfl rfl⟩
  | true =>
    refine ⟨_, rfl, rfl, ?_, restOf_refl s, memByte_congr rfl rfl rfl⟩
    have hcross (p : Prop) [Decidable p] : (decide ¬p).toNat = if p then 0 else 1 := by
      by_cases hp : p <;> simp [hp]
    rw [charge_cyc, State.setPc_cyc, hcross, if_pos rfl]
    omega

/-- Settles O10: every row is a branch, taken where its flag has the value it names. -/
theorem branchesFollowTheirFlag : Obligations.BranchesFollowTheirFlag := fun _ =>
  ⟨branch_of_branches, branch_of_branches, branch_of_branches, branch_of_branches, branch_of_branches,
    branch_of_branches, branch_of_branches, branch_of_branches⟩

end Sys2Proof.Machine
end

section
/-! PROOFS. The stack instructions (O11), the flag instructions and NOP (O12), BRK and RTI (O13). -/

namespace Sys2Proof.Machine

open Sys2Proof.Claims

/-! ## Pushes (R481, R482) -/

/-- A byte pushed by a one-byte instruction of 3 cycles: its slot, `db`, S, PC and the clock, and nothing else. -/
theorem charge_push8_advance (v : Byte) (s : State) :
    let t := charge 3 (push8 v (advance 1 s))
    t.cpu = { s.cpu with pc := s.pc + 1, sp := s.sp - 1 } ∧ t.cyc = s.cyc + 3 ∧ Pushed s t [v] ∧
      RestOf { s with ram := t.ram, db := v } t := by
  rw [push8_pushTop]
  exact ⟨rfl, rfl, pushed_of_ram rfl rfl rfl (by simp), restOf_refl _⟩

/-! ## Pulls (R483, R484) -/

/-- Moving PC first does not change the bytes pulled. -/
theorem pulledByte_advance (n : Nat) (s : State) (k : Nat) : pulledByte (advance n s) k = pulled s k :=
  pulledByte_eq_pulled s k

/-- The byte pulled and the state after, with PC moved past the instruction first. -/
theorem pull8_advance (n : Nat) (s : State) :
    pull8 (advance n s) = (pulled s 0,
      (s.setDb (pulled s 0)).withCpu { s.cpu with pc := s.pc + BitVec.ofNat 16 n, sp := s.sp + 1 } s.cyc) := by
  rw [pull8_pulledByte, pulledByte_advance]
  rfl

/-- The flags of a pulled byte, on numbers (R112). -/
theorem unpack_eq_flags (v : Byte) : Flags.unpack v = flags v := by
  simp [Flags.unpack, flags, BitVec.getLsbD, Nat.testBit_eq_decide_div_mod_eq]

/-- Settles O11: each push is one push and each pull one pull, with PC moved past the instruction first. -/
theorem pushAndPullInstructions : Obligations.PushAndPullInstructions := by
  refine ⟨⟨rfl, fun s => ⟨_, rfl, charge_push8_advance s.a s⟩⟩, ⟨rfl, fun s => ⟨_, rfl, ?php⟩⟩,
    ⟨rfl, fun s => ⟨_, rfl, ?pla⟩⟩, rfl, fun s => ⟨_, rfl, ?plp⟩⟩
  case php =>
    have himage : image s.p true = s.p.pack true := (pack_eq s.p true).symm
    rw [himage]
    exact charge_push8_advance _ s
  case pla =>
    simp only [pull8_advance, loadA_actsOnCpu (pulled s 0) _]
    exact ⟨rfl, rfl, restOf_refl _, memByte_congr rfl rfl rfl⟩
  case plp =>
    simp only [pull8_advance, unpack_eq_flags]
    exact ⟨rfl, rfl, restOf_refl _, memByte_congr rfl rfl rfl⟩

/-! ## Flag instructions (R485 to R492) -/

/-- An operation that replaces the flags alone acts on the registers alone. -/
theorem setP_actsOnCpu (f : Flags → Flags) : ActsOnCpu (fun s => s.setP (f s.p)) (fun c => { c with p := f c.p }) :=
  fun _ => rfl

/-- A row whose operation leaves the state as it is only moves PC and pays its cost. -/
theorem skips_of_plain {bytes : List Byte} {i : Instr} {cost : Nat} (hdecode : decode bytes = .ok (i, []) := by rfl)
    (hexec : exec i = plain bytes.length cost id := by rfl) : Skips bytes i (fun _ => cost) :=
  registers_of_plain (eff := id) (fun _ => rfl) hdecode hexec

/-- Settles O12: every row but NOP replaces the flags by those with its one flag written. -/
theorem flagInstructionsWriteOneFlag : Obligations.FlagInstructionsWriteOneFlag :=
  ⟨registers_of_plain (setP_actsOnCpu fun p => { p with c := false }),
    registers_of_plain (setP_actsOnCpu fun p => { p with c := true }),
    registers_of_plain (setP_actsOnCpu fun p => { p with i := false }),
    registers_of_plain (setP_actsOnCpu fun p => { p with i := true }),
    registers_of_plain (setP_actsOnCpu fun p => { p with d := false }),
    registers_of_plain (setP_actsOnCpu fun p => { p with d := true }),
    registers_of_plain (setP_actsOnCpu fun p => { p with v := false }),
    skips_of_plain⟩

/-! ## BRK and RTI (R495, R496) -/

/-- Loading PC from a vector does not depend on the PC before. -/
theorem setPc_read16_congr {s t : State} {pc : Addr} (h : t = s.setPc pc) (vec : Addr) :
    (read16 vec t).2.setPc (read16 vec t).1 = (read16 vec s).2.setPc (read16 vec s).1 := by
  rw [h, read16_setPc]
  rfl

/-- Nor does taking an interrupt: the return address is given, and PC comes from the vector. -/
theorem enterInterrupt_setPc (ret : Addr) (brk setI : Bool) (vec pc : Addr) (s : State) :
    enterInterrupt ret brk setI vec (s.setPc pc) = enterInterrupt ret brk setI vec s := by
  rw [enterInterrupt_eq, enterInterrupt_eq]
  apply setPc_read16_congr (pc := pc)
  rfl

/-- Settles O13: BRK is an interrupt entry from the state before it, 7 cycles later; RTI is three pulls. -/
theorem softwareInterruptAndReturn : Obligations.SoftwareInterruptAndReturn := by
  refine ⟨⟨rfl, fun s => ⟨_, rfl, ?brkCycles, ?brkEntered⟩⟩, rfl, fun s => ⟨_, rfl, ?rti⟩⟩
  case brkCycles => exact congrArg (· + 7) (enterInterrupt_cyc _ _ _ _ (advance 1 s))
  case brkEntered =>
    simp only [advance, enterInterrupt_setPc]
    exact entered_enterInterrupt _ _ _ _ _ s
  case rti =>
    rw [returnFromInterrupt_eq]
    simp only [pulledByte_advance, unpack_eq_flags, word_eq]
    exact ⟨rfl, rfl, restOf_refl _, memByte_congr rfl rfl rfl⟩

end Sys2Proof.Machine
end

section
/-! PROOFS. The unofficial read-modify-write instructions (O16), the unofficial NOPs (O15), and the step at an
undecodable byte (O25). -/

namespace Sys2Proof.Machine

open Sys2Proof.Claims

/-! ## Read-modify-write instructions (R517 to R522) -/

/-- Settles O16: the byte changes as in INC, DEC or a shift, and the byte written is the operand of the register
operation; each of the six does so in seven modes. -/
theorem unofficialReadModifyWrite : Obligations.UnofficialReadModifyWrite := by
  refine ⟨fun _ _ => ?_, fun _ _ => ?_⟩
  · refine ⟨?_, ?_, ?_, ?_, ?_, ?_, ?_, ?_, ?_, ?_, ?_, ?_, ?_, ?_⟩
    iterate 7 exact modifies_of_modifies decByte_actsOnByte compareA_actsOnCpu
    iterate 7 exact modifies_of_modifies incByte_actsOnByte subA_actsOnCpu
  · refine ⟨?_, ?_, ?_, ?_, ?_, ?_, ?_, ?_, ?_, ?_, ?_, ?_, ?_, ?_,
      ?_, ?_, ?_, ?_, ?_, ?_, ?_, ?_, ?_, ?_, ?_, ?_, ?_, ?_⟩
    iterate 7 exact modifies_of_modifies aslByte_actsOnByte orA_actsOnCpu
    iterate 7 exact modifies_of_modifies rolByte_actsOnByte andA_actsOnCpu
    iterate 7 exact modifies_of_modifies lsrByte_actsOnByte xorA_actsOnCpu
    iterate 7 exact modifies_of_modifies rorByte_actsOnByte addA_actsOnCpu

/-! ## NOPs (R511 to R513) -/

section

variable {bytes : List Byte} {i : Instr} {base : Nat}

/-- A NOP with an operand in memory, in a mode that follows no pointer: the address gives a page cross and nothing else,
so the state changes in PC and the clock only. -/
theorem skips_of_skips {m : Mode} {plusP : Bool} {cost : State → Nat} (hst : ∀ s, (m.resolve s).st = s)
    (hcost : ∀ s, base + (plusP && (m.resolve (s.setPc (after bytes s))).crossed).toNat = cost s)
    (hdecode : decode bytes = .ok (i, [])) (hlen : bytes.length = m.length) (hexec : exec i = skips m base plusP) :
    Skips bytes i cost := by
  refine ⟨hdecode, fun s => ⟨_, congrFun hexec s, ?_⟩⟩
  rw [advance_eq_setPc_after hlen, hst, hcost]
  exact ⟨rfl, rfl, restOf_refl s, memByte_congr rfl rfl rfl⟩

/-- Without the `+p` mark the cost is the table's (R321). -/
theorem skips_of_skips_fixed {m : Mode} (hdecode : decode bytes = .ok (i, []) := by rfl)
    (hexec : exec i = skips m base false := by rfl) (hst : ∀ s, (m.resolve s).st = s := by intro; rfl)
    (hlen : bytes.length = m.length := by rfl) : Skips bytes i (fun _ => base) :=
  skips_of_skips hst (fun _ => rfl) hdecode hlen hexec

/-- With it a carry out of the low byte of the address costs one cycle more (R306, R321). -/
theorem skips_of_skips_abx {op b1 b2 : Byte} (hdecode : decode [op, b1, b2] = .ok (i, []) := by rfl)
    (hexec : exec i = skips (.abx b1 b2) base true := by rfl) :
    Skips [op, b1, b2] i (fun s => base + (if 255 < b1.toNat + s.x.toNat then 1 else 0)) := by
  refine skips_of_skips (m := .abx b1 b2) (fun _ => rfl) (fun s => ?_) hdecode rfl hexec
  rw [Mode.resolve, indexed_word, State.setPc_x, Bool.true_and, Bool.toNat, Bool.cond_decide]

end

/-- Settles O15: the one-byte and immediate rows have no operand in memory; of the others only the absolute indexed ones
depend on their address, by its page cross. -/
theorem unofficialNopsReadNothing : Obligations.UnofficialNopsReadNothing := fun _ _ =>
  ⟨skips_of_skips_fixed, skips_of_skips_fixed, skips_of_skips_fixed, skips_of_plain, skips_of_skips_abx,
    skips_of_skips_fixed, skips_of_plain, skips_of_skips_abx, skips_of_skips_fixed, skips_of_skips_fixed,
    skips_of_plain, skips_of_skips_abx, skips_of_skips_fixed, skips_of_skips_fixed, skips_of_plain,
    skips_of_skips_abx, skips_of_plain, skips_of_plain, skips_of_plain, skips_of_plain, skips_of_skips_fixed,
    skips_of_plain, skips_of_skips_abx, skips_of_plain, skips_of_skips_fixed, skips_of_plain, skips_of_skips_abx⟩

/-! ## No read sees the outputs of the step before -/

theorem chrRead_clearOutputs (a : PpuAddr) (s : State) :
    chrRead a (clearOutputs s) = ((chrRead a s).1, clearOutputs (chrRead a s).2) := by
  have ho : translateChr (clearOutputs s) a = translateChr s a := rfl
  have hsize : chrSize (clearOutputs s) = chrSize s := rfl
  simp only [chrRead, ho, hsize]
  split <;> rfl

theorem ppuRead_clearOutputs (a : PpuAddr) (s : State) :
    ppuRead a (clearOutputs s) = ((ppuRead a s).1, clearOutputs (ppuRead a s).2) := by
  unfold ppuRead
  split
  · exact chrRead_clearOutputs a s
  · split <;> rfl

theorem ppuPortRead_clearOutputs (n : Nat) (s : State) :
    ppuPortRead n (clearOutputs s) = ((ppuPortRead n s).1, clearOutputs (ppuPortRead n s).2) := by
  have hppu : (clearOutputs s).ppu = s.ppu := rfl
  unfold ppuPortRead
  split
  · rfl
  · rfl
  · simp only [readData, hppu, ppuRead_clearOutputs]
    split <;> rfl
  · rfl

theorem cartRead_clearOutputs (a : Addr) (s : State) :
    cartRead a (clearOutputs s) = ((cartRead a s).1, clearOutputs (cartRead a s).2) := by
  have ho : translatePrg (clearOutputs s) a = translatePrg s a := rfl
  simp only [cartRead, ho]
  cases translatePrg s a with
  | none => rfl
  | some p =>
    obtain ⟨r, o⟩ := p
    have hsize : prgSize (clearOutputs s) r = prgSize s r := by cases r <;> rfl
    have hbyte : prgByte (clearOutputs s) r o = prgByte s r o := by cases r <;> rfl
    simp only [hsize, hbyte]
    split <;> rfl

/-- Clearing the outputs before a bus read or after it is the same, whatever answers. -/
theorem read8_clearOutputs (a : Addr) (s : State) :
    read8 a (clearOutputs s) = ((read8 a s).1, clearOutputs (read8 a s).2) := by
  have hstrobe : (clearOutputs s).joyStrobe = s.joyStrobe := rfl
  cases hr : route a with
  | ppuPort n =>
    simp only [read8, hr, ppuPortRead_clearOutputs]
    rfl
  | controller1 =>
    simp only [read8, hr, readController1, hstrobe]
    split <;> rfl
  | controller2 =>
    simp only [read8, hr, readController2, hstrobe]
    split <;> rfl
  | cartridge => simp only [read8, hr, cartRead_clearOutputs]
  | _ =>
    simp only [read8, hr]
    rfl

/-! ## The step at an undecodable byte (R523, R802, R803) -/

/-- An undecodable byte read at PC is fetched alone, and of the read only `db` and a fault stay. -/
theorem fetch_of_mem_undecodableBytes {s : State} (h : (read8 s.pc s).1 ∈ undecodableBytes) :
    fetch s = (.undecodable (read8 s.pc s).1, onlyLatched s (read8 s.pc s).2) :=
  fetch_of_readBytes_undecodable (decode_eq_undecodable_iff.2 h)

/-- A fault latched after that fetch: `db` and the fault are new, the outputs are gone, and the rest stays (R802). -/
theorem setFault_onlyLatched_clearOutputs (s t : State) (f : Option Fault) :
    (onlyLatched (clearOutputs s) t).setFault f =
      { s with db := t.db, fault := f, frameCompleted := false, samples := [] } := by
  simp only [onlyLatched, clearOutputs, State.setDb, State.setFault, State.setFrameCompleted, State.setSamples]

/-- Settles O25: the fetch keeps of the read the byte in `db`, the instruction latches its fault, and no phase runs
after it. -/
theorem undecodableByteEndsTheStep : Obligations.UndecodableByteEndsTheStep := by
  intro s hs
  dsimp only
  have hdb := read8_db s.pc s
  have hread : read8 (clearOutputs s).pc (clearOutputs s) = _ := read8_clearOutputs s.pc s
  generalize read8 s.pc s = r at hdb hread ⊢
  intro hfault hmem
  have hfetch : fetch (clearOutputs s) = (.undecodable r.1, onlyLatched (clearOutputs s) r.2) := by
    rw [fetch_of_mem_undecodableBytes (by rwa [hread]), hread]
    rfl
  have hexec : exec (.undecodable r.1) (onlyLatched (clearOutputs s) r.2) =
      .next ((onlyLatched (clearOutputs s) r.2).setFault (some (.undecodableOpcode s.pc r.1))) :=
    congrArg Host.Outcome.next (raise_of_none hfault)
  rw [step_of_exec hs (by rwa [hfetch]) (by rwa [hfetch]), finishStep_of_undecodable rfl,
    setFault_onlyLatched_clearOutputs, hdb]

end Sys2Proof.Machine
end

section
/-! PROOFS. The CPU's ports of the picture unit: status (O41), control and mask (O42), scroll and address (O43), sprite
memory (O44), data (O45). -/

namespace Sys2Proof.Machine

open Sys2Proof.Claims

/-! ## Every mirror of a port (R204, R605) -/

section
variable {n : Nat} {a : Addr} (h : PortAt n a)
include h

theorem route_of_portAt : route a = .ppuPort n := by
  obtain ⟨h1, h2, rfl⟩ := h
  exact route_ppuPort h1 h2

theorem read8_of_portAt (s : State) : read8 a s = driven (ppuPortRead n s) := by
  simp only [read8, route_of_portAt h]

theorem write8_of_portAt (b : Byte) (s : State) : write8 a b s = (ppuPortWrite n b s).setDb b := by
  simp only [write8, route_of_portAt h]

end

/-! ## Bits and fields of a word, on numbers -/

theorem getLsbD_eq_decide {w : Nat} (x : BitVec w) (i : Nat) : x.getLsbD i = decide (x.toNat / 2 ^ i % 2 = 1) := by
  rw [← BitVec.testBit_toNat, Nat.testBit_eq_decide_div_mod_eq]

/-- A mask clears the `m` bits from bit `k` on and a number takes their place: the bits above and below stay. -/
theorem setField_eq {w k m v : Nat} {x mask f : BitVec w}
    (hmask : ∀ i < w, mask.getLsbD i = decide (i < k ∨ k + m ≤ i)) (hf : f.toNat = v) (hv : v < 2 ^ m) :
    (x &&& mask) ||| (f <<< k) =
      BitVec.ofNat w (x.toNat / 2 ^ (k + m) * 2 ^ (k + m) + v * 2 ^ k + x.toNat % 2 ^ k) := by
  have hsum : x.toNat / 2 ^ (k + m) * 2 ^ (k + m) + v * 2 ^ k + x.toNat % 2 ^ k =
      2 ^ k * (2 ^ m * (x.toNat / 2 ^ (k + m)) + v) + x.toNat % 2 ^ k := by ring
  refine BitVec.eq_of_getLsbD_eq fun i hi => ?_
  rw [hsum, BitVec.getLsbD_ofNat, Nat.testBit_two_pow_mul_add _ (Nat.mod_lt _ (Nat.two_pow_pos k)),
    Nat.testBit_two_pow_mul_add _ hv, ← hf, BitVec.testBit_toNat f, BitVec.getLsbD_or, BitVec.getLsbD_and, hmask i hi,
    BitVec.getLsbD_shiftLeft]
  by_cases hk : i < k
  · simp [hi, hk, BitVec.testBit_toNat]
  · by_cases hm : i < k + m
    · have hin : i - k < m := by omega
      simp [hi, hk, hin, Nat.not_le.2 hm]
    · have hout : ¬i - k < m := by omega
      have hpast : f.getLsbD (i - k) = false := by
        rw [← BitVec.testBit_toNat, hf]
        exact Nat.testBit_lt_two_pow (hv.trans_le (Nat.pow_le_pow_right (by decide) (Nat.not_lt.1 hout)))
      have hback : i - k - m + (k + m) = i := by omega
      simp [hi, hk, hout, Nat.not_lt.1 hm, hpast, hback, Nat.testBit_div_two_pow, BitVec.testBit_toNat]

/-- The same for a field at the bottom of the word. -/
theorem setLowField_eq {w m v : Nat} {x mask f : BitVec w} (hmask : ∀ i < w, mask.getLsbD i = decide (m ≤ i))
    (hf : f.toNat = v) (hv : v < 2 ^ m) : (x &&& mask) ||| f = BitVec.ofNat w (x.toNat / 2 ^ m * 2 ^ m + v) := by
  have h := setField_eq (k := 0) (x := x) (by simpa using hmask) hf hv
  simpa [Nat.mod_one] using h

/-! ## Port 2 (R610) -/

theorem statusByte_eq (p : Ppu) : p.statusByte = BitVec.ofNat 8
    (128 * num p.vblank + 64 * num p.sprite0Hit + 32 * num p.spriteOverflow + p.ioLatch.toNat % 32) := by
  unfold Ppu.statusByte
  generalize p.vblank = vb, p.sprite0Hit = hit, p.spriteOverflow = ov, p.ioLatch = latch
  revert vb hit ov latch
  decide

/-- Settles O41: the byte on numbers; the rest is the port's state as the model writes it. -/
theorem statusPortRead : Obligations.StatusPortRead := by
  intro s a h
  simp only [read8_of_portAt h, ppuPortRead, readStatus, statusByte_eq, List.contains_eq_mem]
  rfl

/-! ## Ports 0 and 1, and the write-only ports (R606, R607, R611) -/

/-- R611: bits 1 and 0 of the byte become bits 11 and 10 of `t`. -/
theorem writeCtrl_eq (p : Ppu) (b : Byte) : p.writeCtrl b = { p with
    ctrl := b
    t := BitVec.ofNat 15 (p.t.toNat / 4096 * 4096 + b.toNat % 4 * 1024 + p.t.toNat % 1024) } := by
  have hb : ((b &&& 0x03).setWidth 15).toNat = b.toNat % 4 := by revert b; decide
  have ht := setField_eq (k := 10) (m := 2) (x := p.t) (mask := 0x73FF) (by decide) hb (by omega)
  exact congrArg (fun t => ({ p with ctrl := b, t := t } : Ppu)) ht

theorem not_nmiEnable (p : Ppu) : (!p.nmiEnable) = decide (p.ctrl.toNat < 128) := by
  rw [Ppu.nmiEnable, bit7_eq, ← decide_not, decide_eq_decide, Nat.not_le]

/-- Settles O42: each port by its equation; the NMI condition on numbers. -/
theorem controlMaskAndWriteOnlyPorts : Obligations.ControlMaskAndWriteOnlyPorts := by
  refine ⟨fun s a b => ⟨fun h => ?ctrl, fun h => ?_, fun h => ?_⟩, fun s a n hn h => ?_⟩
  case ctrl =>
    simp only [write8_of_portAt h, ppuPortWrite, writeCtrl_eq, not_nmiEnable, bit7_eq]
    rfl
  · rw [write8_of_portAt h]
    rfl
  · rw [write8_of_portAt h]
    rfl
  · rw [read8_of_portAt h]
    simp only [List.mem_cons, List.not_mem_nil, or_false] at hn
    obtain rfl | rfl | rfl | rfl | rfl := hn <;> rfl

/-! ## Ports 5 and 6: the two writes of a pair (R613, R614) -/

theorem fineScroll_toNat (b : Byte) : ((b &&& 0x07).setWidth 15).toNat = b.toNat % 8 := by revert b; decide

theorem coarseScroll_toNat (b : Byte) : ((b >>> 3).setWidth 15).toNat = b.toNat / 8 := by revert b; decide

theorem writeScroll_first {p : Ppu} (hw : p.w = false) (b : Byte) : p.writeScroll b = { p with
    t := BitVec.ofNat 15 (p.t.toNat / 32 * 32 + b.toNat / 8)
    x := BitVec.ofNat 3 (b.toNat % 8)
    w := true } := by
  have hx : b.setWidth 3 = BitVec.ofNat 3 (b.toNat % 8) := by revert b; decide
  have ht := setLowField_eq (m := 5) (x := p.t) (mask := 0x7FE0) (by decide) (coarseScroll_toNat b) (by omega)
  rw [Ppu.writeScroll, hw]
  exact congrArg₂ (fun t x => ({ p with t := t, x := x, w := true } : Ppu)) ht hx

/-- The vertical scroll is two fields of `t`: fine Y is set, and coarse Y in what that gives. -/
theorem verticalScroll_eq (t : BitVec 15) (b : Byte) :
    (t &&& 0x0C1F) ||| ((b &&& 0x07).setWidth 15 <<< 12) ||| ((b >>> 3).setWidth 15 <<< 5) =
      BitVec.ofNat 15 (b.toNat % 8 * 4096 + t.toNat / 1024 % 4 * 1024 + b.toNat / 8 * 32 + t.toNat % 32) := by
  have hkeep : ((b &&& 0x07).setWidth 15 <<< 12) &&& (0x7C1F : BitVec 15) = (b &&& 0x07).setWidth 15 <<< 12 := by
    revert b; decide
  have hfine := setField_eq (k := 12) (m := 3) (x := t) (mask := 0x0FFF) (by decide) (fineScroll_toNat b) (by omega)
  have hcoarse := setField_eq (k := 5) (m := 5) (mask := 0x7C1F) (by decide) (coarseScroll_toNat b) (by omega)
    (x := (t &&& (0x0FFF : BitVec 15)) ||| ((b &&& 0x07).setWidth 15 <<< 12))
  rw [BitVec.and_or_distrib_right, hkeep, BitVec.and_assoc, hfine, BitVec.toNat_ofNat] at hcoarse
  exact hcoarse.trans (congrArg (BitVec.ofNat 15) (by omega))

theorem writeScroll_second {p : Ppu} (hw : p.w = true) (b : Byte) : p.writeScroll b = { p with
    t := BitVec.ofNat 15 (b.toNat % 8 * 4096 + p.t.toNat / 1024 % 4 * 1024 + b.toNat / 8 * 32 + p.t.toNat % 32)
    w := false } := by
  rw [Ppu.writeScroll, hw]
  exact congrArg (fun t => ({ p with t := t, w := false } : Ppu)) (verticalScroll_eq p.t b)

theorem writeAddr_first {p : Ppu} (hw : p.w = false) (b : Byte) : p.writeAddr b = { p with
    t := BitVec.ofNat 15 (b.toNat % 64 * 256 + p.t.toNat % 256)
    w := true } := by
  have hb : ((b &&& 0x3F).setWidth 15).toNat = b.toNat % 64 := by revert b; decide
  have ht := setField_eq (k := 8) (m := 7) (x := p.t) (mask := 0x00FF) (by decide) hb (by omega)
  rw [Nat.div_eq_of_lt p.t.isLt, Nat.zero_mul, Nat.zero_add] at ht
  rw [Ppu.writeAddr, hw]
  exact congrArg (fun t => ({ p with t := t, w := true } : Ppu)) ht

theorem writeAddr_second {p : Ppu} (hw : p.w = true) (b : Byte) :
    let t := BitVec.ofNat 15 (p.t.toNat / 256 * 256 + b.toNat)
    p.writeAddr b = { p with t := t, v := t, w := false } := by
  have hb : (b.setWidth 15).toNat = b.toNat := by revert b; decide
  have ht := setLowField_eq (m := 8) (x := p.t) (mask := 0x7F00) (by decide) hb (by omega)
  rw [Ppu.writeAddr, hw]
  exact congrArg (fun t => ({ p with t := t, v := t, w := false } : Ppu)) ht

/-- Settles O43: each write of a pair by its equation. -/
theorem scrollAndAddressPorts : Obligations.ScrollAndAddressPorts := by
  intro s a b
  refine ⟨fun h hw => ?_, fun h hw => ?_, fun h hw => ?_, fun h hw => ?_⟩ <;>
    simp only [write8_of_portAt h, ppuPortWrite]
  · rw [writeScroll_first (p := { s.ppu with ioLatch := b }) hw]; rfl
  · rw [writeScroll_second (p := { s.ppu with ioLatch := b }) hw]; rfl
  · rw [writeAddr_first (p := { s.ppu with ioLatch := b }) hw]; rfl
  · rw [writeAddr_second (p := { s.ppu with ioLatch := b }) hw]; rfl

/-! ## Ports 3 and 4 (R612, R618) -/

/-- Settles O44: port 4 writes the cell its address names, as `oamByte` gives the byte. -/
theorem oamPorts : Obligations.OamPorts := by
  intro s a b
  refine ⟨fun h => ?_, fun h => ?_, fun h => ?_⟩
  · rw [write8_of_portAt h]
    rfl
  · have hnext : s.ppu.oamAddr + 1 = BitVec.ofNat 8 (s.ppu.oamAddr.toNat + 1) := add_one_eq_ofNat _
    simp only [write8_of_portAt h, ppuPortWrite, Ppu.writeOamData, hnext, oamByte_eq]
    refine ⟨rfl, fun hr i => (Cells.read_write hr _ _ _).trans ?_⟩
    split
    · next hi => rw [hi]
    · rfl
  · rw [read8_of_portAt h]
    rfl

/-! ## Port 7 (R616, R617) -/

/-- R616: the step of `v` is 32 with bit 2 of `ctrl`, else 1. -/
theorem add_vinc (p : Ppu) :
    p.v + p.vinc = BitVec.ofNat 15 (p.v.toNat + if p.ctrl.toNat / 4 % 2 = 1 then 32 else 1) := by
  have hbit : p.ctrl.getLsbD 2 = decide (p.ctrl.toNat / 4 % 2 = 1) := getLsbD_eq_decide p.ctrl 2
  simp only [Ppu.vinc, hbit, decide_eq_true_eq]
  split <;> rw [BitVec.ofNat_add, BitVec.ofNat_toNat, BitVec.setWidth_eq] <;> rfl

theorem ppuRead_ppu (a : PpuAddr) (s : State) : (ppuRead a s).2.ppu = s.ppu := by
  obtain ⟨f, h⟩ := ppuRead_cases a s
  rw [h]
  rfl

/-- A write of the PPU bus reaches neither the address nor its step. -/
theorem ppuWrite_v_ctrl (a : PpuAddr) (b : Byte) (s : State) :
    (ppuWrite a b s).ppu.v = s.ppu.v ∧ (ppuWrite a b s).ppu.ctrl = s.ppu.ctrl := by
  simp only [ppuWrite, chrWrite]
  repeat' split
  all_goals exact ⟨rfl, rfl⟩

/-- A write of port 7 is a write of the PPU bus, and then `v` moves on. -/
theorem ppuPortWrite_data (b : Byte) (s : State) :
    let u := ppuWrite (s.ppu.v.setWidth 14) b { s with ppu := { s.ppu with ioLatch := b } }
    ppuPortWrite 7 b s = { u with ppu := { u.ppu with
      v := BitVec.ofNat 15 (s.ppu.v.toNat + if s.ppu.ctrl.toNat / 4 % 2 = 1 then 32 else 1) } } := by
  intro u
  obtain ⟨hv, hc⟩ : u.ppu.v = s.ppu.v ∧ u.ppu.ctrl = s.ppu.ctrl := ppuWrite_v_ctrl _ b _
  rw [← hv, ← hc]
  exact congrArg (fun v => { u with ppu := { u.ppu with v := v } }) (add_vinc u.ppu)

/-- A palette read's byte: six bits of the cell under two of the latch. -/
theorem paletteRead_eq (m latch : Byte) :
    (m &&& 0x3F) ||| (latch &&& 0xC0) = BitVec.ofNat 8 (m.toNat % 64 + latch.toNat / 64 * 64) := by
  have hm : (m &&& 0x3F).toNat = m.toNat % 64 := by revert m; decide
  have h := setLowField_eq (m := 6) (x := latch) (mask := 0xC0) (by decide) hm (by omega)
  rw [BitVec.or_comm, Nat.add_comm]
  exact h

/-- Below a palette address, 0x1000 lower, lies the nametable byte that refills the buffer. -/
theorem under_palette {a : PpuAddr} (h : 0x3F00 ≤ a.toNat) : a &&& 0x2FFF = a - 0x1000 := by
  have hl : (a.setWidth 8).toNat = a.toNat - 0x3F00 := by
    rw [BitVec.toNat_setWidth]
    omega
  have ha : a = (0x3F : BitVec 6) ++ a.setWidth 8 := by
    apply BitVec.eq_of_toNat_eq
    rw [BitVec.toNat_append, ← Nat.shiftLeft_add_eq_or_of_lt (BitVec.isLt _), hl]
    have : (0x3F : BitVec 6).toNat <<< 8 = 0x3F00 := rfl
    omega
  rw [ha]
  generalize a.setWidth 8 = l
  revert l; decide

/-- Settles O45: the write and both reads by their equations, with the byte, the address underneath and the next `v` on
numbers. -/
theorem dataPortReadsThroughTheBuffer : Obligations.DataPortReadsThroughTheBuffer := by
  intro s a b h
  dsimp only
  rw [BitVec.ofNat_toNat]
  refine ⟨?_, fun hlow => ?_, fun hpal => ?_⟩
  · rw [write8_of_portAt h, ppuPortWrite_data]
    rfl
  · simp only [read8_of_portAt h, ppuPortRead, readData, if_pos hlow, ppuRead_ppu, add_vinc]
    rfl
  · simp only [read8_of_portAt h, ppuPortRead, readData, if_neg (Nat.not_lt.2 hpal), ppuRead_ppu, add_vinc,
      paletteRead_eq, under_palette hpal]
    rfl

end Sys2Proof.Machine
end

section
/-! PROOFS. The two dots that change the flags (O47); the length of a frame and the position of its dots (O49). -/

namespace Sys2Proof.Machine

/-! ## The two dots that change the flags (R642, R643) -/

theorem nmiEnable_eq (p : Ppu) : p.nmiEnable = decide (128 ≤ p.ctrl.toNat) := bit7_eq p.ctrl

/-- R642 without its case split: a noted suppression is used up, and nothing is raised. -/
theorem vblankSet_eq (s : State) : vblankSet s = { s with
    nmiPending := s.nmiPending || (!s.ppu.vblSuppress && decide (128 ≤ s.ppu.ctrl.toNat))
    ppu := { s.ppu with vblank := s.ppu.vblank || !s.ppu.vblSuppress, vblSuppress := false } } := by
  cases h : s.ppu.vblSuppress <;> simp [vblankSet, nmiEnable_eq, h, State.setPpu, State.setNmiPending]

/-- Away from the end of a line and from the dot the short frame leaves out the position moves to the next dot. -/
theorem advanceDot_of_inLine {s : State} (h : ¬(s.ppu.dot = 340 ∨ skipsDot s = true)) :
    advanceDot s = s.setPpu { s.ppu with dot := s.ppu.dot + 1 } := by
  simp only [advanceDot, if_neg h]

/-- The dot that sets vblank does nothing else (R622, R642). -/
theorem dotWork_vblank (s : State) : dotWork 241 1 s = vblankSet s := by
  simp [dotWork]

/-- The dot that clears the flags goes on to the fetch of its line (R622, R643). -/
theorem dotWork_flagsClear (s : State) : dotWork 261 1 s = lineWork 261 1 (s.setPpu s.ppu.flagsClear) := by
  simp [dotWork]

/-- A name fetch changes one latch of the unit (R632). -/
theorem fetchName_ppu (s : State) :
    (fetchName s).ppu = { s.ppu with ntByte := (ppuRead (nameAddr s.ppu.v) s).1 } := by
  rw [fetchName, State.setPpu_ppu, ppuRead_ppu]

/-- The first dot of a line at most shifts and fetches a name, so it leaves the sprite flags. -/
theorem lineWork_one_spriteFlags (sl : Nat) (s : State) :
    (lineWork sl 1 s).ppu.sprite0Hit = s.ppu.sprite0Hit ∧
      (lineWork sl 1 s).ppu.spriteOverflow = s.ppu.spriteOverflow := by
  have hphase : fetchPhase 1 = fetchName := rfl
  simp only [lineWork]
  split
  · simp [hphase, fetchName_ppu, Ppu.shiftBg]
  · simp

/-- Settles O47: at (241, 1) the work is `vblankSet` and the position moves on; at (261, 1) nothing after the clearing
touches the flags. -/
theorem vblankFlagAndNmi : Obligations.VblankFlagAndNmi := by
  refine fun s => ⟨fun hsl hd => ?_, fun hsl hd => ?_⟩
  · have hline : ¬((vblankSet s).ppu.dot = 340 ∨ skipsDot (vblankSet s) = true) := by
      rw [vblankSet_eq]
      simp [skipsDot, hd]
    rw [dot, hsl, hd, dotWork_vblank, advanceDot_of_inLine hline, vblankSet_eq]
    simp only [State.setPpu, hd]
  · obtain ⟨sl, d, parity, n, hppu⟩ := dot_ppu s
    have hkept := FlagsKept.lineWork 261 1 (s.setPpu s.ppu.flagsClear)
    obtain ⟨hhit, hover⟩ := lineWork_one_spriteFlags 261 (s.setPpu s.ppu.flagsClear)
    rw [hppu, dot_nmiPending, hsl, hd, dotWork_flagsClear]
    exact ⟨hkept.vblank, hhit, hover, hkept.nmiPending⟩

/-! ## The position after one dot (R623) -/

/-- Where the unit stands: scanline, dot and frame parity. -/
def Ppu.position (p : Ppu) : Nat × Nat × Bool := (p.scanline, p.dot, p.frameParity)

/-- The frame that leaves its last dot out (R623). -/
def shortFrame (s : State) : Bool := !s.ppu.frameParity && (s.ppu.rendering || !s.params.skipNeedsRendering)

theorem skipsDot_iff (s : State) :
    skipsDot s = true ↔ s.ppu.scanline = 261 ∧ s.ppu.dot = 339 ∧ shortFrame s = true := by
  simp only [skipsDot, shortFrame, Bool.and_eq_true, decide_eq_true_eq, and_assoc]

/-- Where the dot of R623 leads: on in the line, to the next line, or to the next frame. -/
def nextPosition (s : State) : Nat × Nat × Bool :=
  if s.ppu.dot = 340 ∨ skipsDot s = true then
    if s.ppu.scanline = 261 then (0, 0, !s.ppu.frameParity) else (s.ppu.scanline + 1, 0, s.ppu.frameParity)
  else (s.ppu.scanline, s.ppu.dot + 1, s.ppu.frameParity)

theorem advanceDot_position (s : State) : (advanceDot s).ppu.position = nextPosition s := by
  simp only [advanceDot, nextPosition]
  repeat' split
  all_goals rfl

/-- The work of a dot changes nothing that decides how the position moves. -/
theorem Works.skipsDot {s t : State} (h : Works s t) : skipsDot t = skipsDot s := by
  obtain ⟨f, nmi, p, ms, rfl, hp, -⟩ := h
  simp only [Machine.skipsDot, Ppu.rendering, Ppu.showBg, Ppu.showSpr, hp.scanline, hp.dot, hp.frameParity, hp.mask]

theorem Works.nextPosition {s t : State} (h : Works s t) : nextPosition t = nextPosition s := by
  have hp := h.ppuWorks
  simp only [Machine.nextPosition, h.skipsDot, hp.scanline, hp.dot, hp.frameParity]

theorem dot_position (s : State) : (dot s).ppu.position = nextPosition s :=
  (advanceDot_position _).trans (works_dotWork s.ppu.scanline s.ppu.dot s).nextPosition

/-! ## A frame -/

theorem dots_succ (n : Nat) (s : State) : dots (n + 1) s = dot (dots n s) := by
  induction n generalizing s with
  | zero => rfl
  | succ n ih => exact ih (dot s)

theorem dot_mask_params (s : State) : (dot s).ppu.mask = s.ppu.mask ∧ (dot s).params = s.params := by
  obtain ⟨sl, d, parity, n, hppu⟩ := dot_ppu s
  obtain ⟨f, nmi, p, ms, fc, hdot, -⟩ := dot_cases s
  exact ⟨by rw [hppu]; exact (works_dotWork s.ppu.scanline s.ppu.dot s).ppuWorks.mask, by rw [hdot]⟩

theorem dots_mask_params (n : Nat) (s : State) : (dots n s).ppu.mask = s.ppu.mask ∧ (dots n s).params = s.params := by
  induction n with
  | zero => exact ⟨rfl, rfl⟩
  | succ n ih =>
    obtain ⟨hmask, hparams⟩ := dot_mask_params (dots n s)
    rw [dots_succ]
    exact ⟨hmask.trans ih.1, hparams.trans ih.2⟩

/-- No dot changes what makes a frame short but the parity. -/
theorem shortFrame_dots {n : Nat} {s : State} (h : (dots n s).ppu.frameParity = s.ppu.frameParity) :
    shortFrame (dots n s) = shortFrame s := by
  obtain ⟨hmask, hparams⟩ := dots_mask_params n s
  simp only [shortFrame, Ppu.rendering, Ppu.showBg, Ppu.showSpr, h, hmask, hparams]

/-- The dots of a frame (R624). -/
def frameLength (s : State) : Nat := if shortFrame s then 89341 else 89342

section
variable {s : State} (hsl : s.ppu.scanline = 0) (hd : s.ppu.dot = 0)
include hsl hd

/-- Inside the frame the position is the count of the dots, divided by the length of a line. -/
theorem dots_position {k : Nat} (hk : k < frameLength s) :
    (dots k s).ppu.position = (k / 341, k % 341, s.ppu.frameParity) := by
  have hlen : frameLength s ≤ 89342 := by unfold frameLength; split <;> omega
  induction k with
  | zero => simp [dots, Ppu.position, hsl, hd]
  | succ k ih =>
    have hpos := ih (by omega)
    simp only [Ppu.position, Prod.mk.injEq] at hpos
    obtain ⟨hs, hdot, hparity⟩ := hpos
    have hskip : ¬skipsDot (dots k s) = true := by
      rw [skipsDot_iff, hs, hdot, shortFrame_dots hparity]
      rintro ⟨h1, h2, hshort⟩
      simp only [frameLength, hshort, if_true] at hk
      omega
    rw [dots_succ, dot_position, nextPosition, hs, hdot, hparity]
    by_cases hend : k % 341 = 340
    · have hline : ¬k / 341 = 261 := by omega
      rw [if_pos (.inl hend), if_neg hline]
      simp only [Prod.mk.injEq, and_true]
      omega
    · rw [if_neg (not_or.2 ⟨hend, hskip⟩)]
      simp only [Prod.mk.injEq, and_true]
      omega

/-- The dot that ends the frame, the last of its line or the one the short frame leaves out, leads to a new one. -/
theorem dots_frameLength_position : (dots (frameLength s) s).ppu.position = (0, 0, !s.ppu.frameParity) := by
  obtain ⟨n, hn⟩ : ∃ n, frameLength s = n + 1 := ⟨frameLength s - 1, by unfold frameLength; split <;> rfl⟩
  have hpos := dots_position hsl hd (k := n) (by omega)
  simp only [Ppu.position, Prod.mk.injEq] at hpos
  obtain ⟨hs, hdot, hparity⟩ := hpos
  rw [hn, dots_succ, dot_position]
  simp only [nextPosition, skipsDot_iff, shortFrame_dots hparity, hs, hdot, hparity]
  cases hshort : shortFrame s <;> simp only [frameLength, hshort] at hn
  · obtain rfl : n = 89341 := by simpa using hn.symm
    rfl
  · obtain rfl : n = 89340 := by simpa using hn.symm
    rfl

end

/-- Settles O49: the positions by induction on the dots, the end of the frame by its last one. -/
theorem frameLengthAndPosition : Obligations.FrameLengthAndPosition := by
  intro s hsl hd short length
  have hlen : length = frameLength s := by
    simp [length, short, frameLength, shortFrame]
  have hframe (k : Nat) (hk : k < frameLength s) := dots_position hsl hd hk
  have hnext := dots_frameLength_position hsl hd
  simp only [Ppu.position, Prod.mk.injEq] at hframe hnext
  rw [hlen]
  exact ⟨hframe, hnext⟩

end Sys2Proof.Machine
end

section
/-! PROOFS. What catching up does to both units (O27). -/

namespace Sys2Proof.Machine

/-! ## One cycle of the audio unit (R701, R748, R760) -/

@[simp] theorem dmcFetch_samples (s : State) : (dmcFetch s).samples = s.samples :=
  read8_samples s.apu.dmc.curAddr s

theorem dmcFetch_cyc (s : State) : (dmcFetch s).cyc = s.cyc + s.params.dmcStall := by
  simp [dmcFetch]

/-- The cycle emits one sample, whether it fetches a byte or not. -/
theorem apuCycle_samples_length (s : State) : (apuCycle s).samples.length = s.samples.length + 1 := by
  simp only [apuCycle, dmcReader, State.setApu_samples, State.setSamples_samples, List.length_append]
  split <;> simp

/-- Only a fetch moves the clock, by the stall (R748). -/
theorem apuCycle_cyc (s : State) : ∃ k ≤ 1, (apuCycle s).cyc = s.cyc + k * s.params.dmcStall := by
  have hreader (t : State) : (apuCycle t).cyc = (dmcReader (t.setApu t.apu.clockTimers)).cyc := rfl
  rw [hreader, dmcReader]
  split
  · exact ⟨1, Nat.le_refl 1, by rw [dmcFetch_cyc, Nat.one_mul]; rfl⟩
  · exact ⟨0, Nat.zero_le 1, by rw [Nat.zero_mul]; rfl⟩

theorem apuCycle_params (s : State) : (apuCycle s).params = s.params := by
  obtain ⟨f, db, v, rb, io, vb, w, vs, j0, j1, cyc, apu, smp, h, -⟩ := apuCycle_cases s
  rw [h]

/-! ## `n` cycles -/

theorem apuCycles_samples_length (n : Nat) (s : State) :
    (apuCycles n s).samples.length = s.samples.length + n := by
  induction n generalizing s with
  | zero => rfl
  | succ n ih =>
    rw [apuCycles, ih, apuCycle_samples_length]
    omega

/-- The clock moves by one stall for every cycle that fetched. -/
theorem apuCycles_cyc (n : Nat) (s : State) :
    ∃ k ≤ n, (apuCycles n s).cyc = s.cyc + k * s.params.dmcStall := by
  induction n generalizing s with
  | zero => exact ⟨0, Nat.le_refl 0, by rw [Nat.zero_mul]; rfl⟩
  | succ n ih =>
    obtain ⟨j, hj, hfirst⟩ := apuCycle_cyc s
    obtain ⟨k, hk, hrest⟩ := ih (apuCycle s)
    exact ⟨j + k, by omega, by rw [apuCycles, hrest, hfirst, apuCycle_params, Nat.add_assoc, Nat.add_mul]⟩

/-- Settles O27: what each catch-up can change; for the audio unit the samples and the clock by induction on its
cycles. -/
theorem catchUpReachesTheClock : Obligations.CatchUpReachesTheClock := by
  refine ⟨fun s hs => ?ppu, fun s hs => ?apu⟩
  case ppu =>
    obtain ⟨f, nmi, p, ms, fc, h, hdots, -⟩ := ppuCatchUp_cases s
    rw [h]
    exact ⟨hdots.trans (Nat.max_eq_right hs), rfl, rfl, rfl, rfl, rfl⟩
  case apu =>
    have hsamples := apuCycles_samples_length (s.cyc - s.apu.apuCyc) s
    have hcyc := apuCycles_cyc (s.cyc - s.apu.apuCyc) s
    rw [← apuCatchUp] at hsamples hcyc
    obtain ⟨f, db, v, rb, io, vb, w, vs, j0, j1, cyc, apu, smp, h, -, hcount, -⟩ := apuCatchUp_cases s
    rw [h] at hsamples hcyc ⊢
    exact ⟨hcount.trans (Nat.max_eq_right hs), hsamples, hcyc, rfl, rfl, rfl, rfl, rfl⟩

end Sys2Proof.Machine
end

section
/-! PROOFS. Sprite evaluation (O50): a walk over the sprites in range that takes the first eight. -/

namespace Sys2Proof.Machine

/-! ## The evaluation loop as a walk over the sprites in range (R652) -/

/-- Sprite `i` is taken into the next unit. -/
def takeSprite (oam : Memory) (i : Nat) (e : Evaluation) : Evaluation :=
  { e with n := e.n + 1, secOam := copyDescriptor oam i e.n e.secOam, zero := e.zero || decide (i = 0) }

/-- What the loop of R652 does with the sprites in range, in OAM order: it takes them while a unit is free, and the
first that finds none sets overflow and ends it. -/
def takeSprites (oam : Memory) : List Nat → Evaluation → Evaluation
  | [], e => e
  | i :: sel, e => if e.n < 8 then takeSprites oam sel (takeSprite oam i e) else { e with overflow := true }

/-- The loop of the model over its last `k` sprites is that walk. -/
theorem evaluate_eq_takeSprites (oam : Memory) (sl h : Nat) {k : Nat} (hk : k ≤ 64) (e : Evaluation) :
    evaluate oam sl h k e =
      takeSprites oam ((List.range' (64 - k) k).filter fun i => inRange sl h (oam.read .oam (4 * i))) e := by
  induction k generalizing e with
  | zero => rfl
  | succ k ih =>
    have hfirst : 64 - (k + 1) = 63 - k := by omega
    have hnext : 63 - k + 1 = 64 - k := by omega
    rw [evaluate, List.range'_succ, hfirst, hnext, List.filter_cons]
    split
    · rw [takeSprites, takeSprite, ih (by omega)]
    · exact ih (by omega) e

/-! ### What the walk leaves -/

section
variable (oam : Memory) (sel : List Nat) {e : Evaluation} (he : e.n ≤ 8)
include he

theorem takeSprites_n : (takeSprites oam sel e).n = min 8 (e.n + sel.length) := by
  induction sel generalizing e with
  | nil => simp [takeSprites, he]
  | cons i sel ih =>
    rw [takeSprites, List.length_cons]
    split
    · next h =>
      rw [ih (e := takeSprite oam i e) h, takeSprite, Nat.add_right_comm, Nat.add_assoc]
    · dsimp only
      omega

theorem takeSprites_overflow :
    (takeSprites oam sel e).overflow = (e.overflow || decide (8 < e.n + sel.length)) := by
  induction sel generalizing e with
  | nil => simp [takeSprites, he]
  | cons i sel ih =>
    rw [takeSprites, List.length_cons]
    split
    · next h =>
      rw [ih (e := takeSprite oam i e) h, takeSprite, Nat.add_right_comm, Nat.add_assoc]
    · have hninth : 8 < e.n + (sel.length + 1) := by omega
      simp [hninth]

theorem takeSprites_zero : (takeSprites oam sel e).zero = (e.zero || decide (0 ∈ sel.take (8 - e.n))) := by
  induction sel generalizing e with
  | nil => simp [takeSprites]
  | cons i sel ih =>
    rw [takeSprites]
    split
    · next h =>
      have hroom : 8 - e.n = 8 - (takeSprite oam i e).n + 1 := by simp only [takeSprite]; omega
      rw [ih (e := takeSprite oam i e) h, hroom, List.take_succ_cons]
      simp [takeSprite, Bool.or_assoc, eq_comm (a := 0)]
    · have hfull : 8 - e.n = 0 := by omega
      simp [hfull]

end

/-! ### Secondary OAM -/

/-- The four bytes of slot `n` are those of descriptor `i`; every other slot stays. -/
theorem read_copyDescriptor {oam sec : Memory} (hr : sec.rising = true) (i n k : Nat) {j : Nat} (hj : j < 4) :
    (copyDescriptor oam i n sec).read .secOam (4 * k + j) =
      if k = n then oam.read .oam (4 * i + j) else sec.read .secOam (4 * k + j) := by
  rw [copyDescriptor, Cells.read_write (Cells.write_rising _ (Cells.write_rising _ (Cells.write_rising _ hr))),
    Cells.read_write (Cells.write_rising _ (Cells.write_rising _ hr)), Cells.read_write (Cells.write_rising _ hr),
    Cells.read_write hr]
  by_cases hk : k = n
  · obtain rfl | rfl | rfl | rfl : j = 0 ∨ j = 1 ∨ j = 2 ∨ j = 3 := by omega
    all_goals simp [hk]
  · rw [if_neg (by omega), if_neg (by omega), if_neg (by omega), if_neg (by omega), if_neg hk]

theorem copyDescriptor_rising {oam sec : Memory} (hr : sec.rising = true) (i n : Nat) :
    (copyDescriptor oam i n sec).rising = true :=
  Cells.write_rising _ (Cells.write_rising _ (Cells.write_rising _ (Cells.write_rising _ hr)))

section
variable (oam : Memory) (sel : List Nat) {e : Evaluation} (hr : e.secOam.rising = true)
include hr

/-- The walk fills the slots from the next unit on with the descriptors of the sprites, as far as there are units, and
leaves every other slot. -/
theorem read_takeSprites (k : Nat) {j : Nat} (hj : j < 4) : (takeSprites oam sel e).secOam.read .secOam (4 * k + j) =
    if e.n ≤ k ∧ k < (takeSprites oam sel e).n then oam.read .oam (4 * sel.getD (k - e.n) 0 + j)
    else e.secOam.read .secOam (4 * k + j) := by
  induction sel generalizing e with
  | nil => rw [takeSprites, if_neg (by omega)]
  | cons i sel ih =>
    rw [takeSprites]
    split
    · next h =>
      have hn := takeSprites_n oam sel (e := takeSprite oam i e) h
      rw [ih (e := takeSprite oam i e) (copyDescriptor_rising hr i e.n)]
      generalize (takeSprites oam sel (takeSprite oam i e)).n = last at hn
      simp only [takeSprite, read_copyDescriptor hr _ _ _ hj] at hn ⊢
      obtain hlt | rfl | hgt := Nat.lt_trichotomy k e.n
      · rw [if_neg (by omega), if_neg (by omega), if_neg (by omega)]
      · rw [if_neg (by omega), if_pos rfl, if_pos (by omega), Nat.sub_self]
        rfl
      · have hrest : k - e.n = k - (e.n + 1) + 1 := by omega
        rw [hrest, List.getD_cons_succ]
        by_cases hlast : k < last
        · rw [if_pos (by omega), if_pos (by omega)]
        · rw [if_neg (by omega), if_neg (by omega), if_neg (by omega)]
    · rw [if_neg (by dsimp only; omega)]

end

/-- A walk over the indices of OAM in order takes sprite 0 first, if at all. -/
theorem zero_mem_take_filter_range {p : Nat → Bool} {m n : Nat} (hm : 0 < m) :
    0 ∈ ((List.range n).filter p).take m ↔ 0 ∈ (List.range n).filter p := by
  cases n with
  | zero => simp
  | succ n =>
    rw [List.range_succ_eq_map, List.filter_cons]
    split
    · obtain ⟨m, rfl⟩ := Nat.exists_eq_add_of_le' hm
      simp
    · next h =>
      refine ⟨List.mem_of_mem_take, fun h0 => ?_⟩
      simp at h0

/-! ### The pattern fetches that follow (R653) -/

theorem fetchSprite_ppu (sl k : Nat) (s : State) :
    ∃ units, (fetchSprite sl k s).ppu = { s.ppu with sprites := units } := by
  simp only [fetchSprite, State.setPpu_ppu, ppuRead_ppu]
  exact ⟨_, rfl⟩

/-- They fill the units and change nothing else of the picture unit. -/
theorem fetchSprites_ppu (sl count k : Nat) (s : State) :
    ∃ units, (fetchSprites sl count k s).ppu = { s.ppu with sprites := units } := by
  induction k generalizing s with
  | zero => exact ⟨s.ppu.sprites, rfl⟩
  | succ k ih =>
    obtain ⟨_, hfirst⟩ := fetchSprite_ppu sl (count - (k + 1)) s
    obtain ⟨units, hrest⟩ := ih (fetchSprite sl (count - (k + 1)) s)
    exact ⟨units, by rw [fetchSprites, hrest, hfirst]⟩

/-! ### Evaluation of a whole scanline -/

theorem spriteH_eq (p : Ppu) : p.spriteH = if p.ctrl.toNat / 32 % 2 = 1 then 16 else 8 := by
  have hbit : p.ctrl.getLsbD 5 = decide (p.ctrl.toNat / 32 % 2 = 1) := getLsbD_eq_decide p.ctrl 5
  simp only [Ppu.spriteH, hbit, decide_eq_true_eq]

/-- The sprites whose rows contain the line after scanline `sl`, in OAM order (R652). -/
def spritesInRange (sl : Nat) (p : Ppu) : List Nat :=
  (List.range 64).filter fun i => inRange sl p.spriteH (p.oam.read .oam (4 * i))

/-- Before a scanline's evaluation no unit is filled and secondary OAM is cleared (R652). -/
def noSprites : Evaluation where
  n := 0
  secOam := []
  zero := false
  overflow := false

/-- On every scanline but 261 the walk's result is the unit's, with the fetched units beside it. -/
theorem spritesForNextLine_ppu {sl : Nat} (hsl : sl ≠ 261) (s : State) : ∃ units,
    let e := takeSprites s.ppu.oam (spritesInRange sl s.ppu) noSprites
    (spritesForNextLine sl s).ppu = { s.ppu with
      sprCount := e.n
      sprZeroOnLine := e.zero
      secOam := e.secOam
      spriteOverflow := s.ppu.spriteOverflow || e.overflow
      sprites := units } := by
  have he := evaluate_eq_takeSprites s.ppu.oam sl s.ppu.spriteH (Nat.le_refl 64) noSprites
  rw [Nat.sub_self, ← List.range_eq_range'] at he
  rw [spritesForNextLine, if_neg hsl]
  obtain ⟨units, h⟩ := fetchSprites_ppu sl _ _ _
  exact ⟨units, h.trans (by rw [← noSprites, he]; rfl)⟩

/-- Settles O50: the walk's equations, from no sprite on. -/
theorem spriteEvaluationKeepsTheFirstEight : Obligations.SpriteEvaluationKeepsTheFirstEight := by
  intro s sl
  refine ⟨fun hsl => ?_, fun hsl => ?_⟩
  · intro h sel t
    have hsel : sel = spritesInRange sl s.ppu := by
      simp only [sel, h, spritesInRange, inRange, spriteH_eq, Bool.decide_and]
    obtain ⟨units, ht⟩ := spritesForNextLine_ppu (show sl ≠ 261 by omega) s
    rw [← hsel] at ht
    have hn := takeSprites_n s.ppu.oam sel (e := noSprites) (Nat.zero_le 8)
    have hover := takeSprites_overflow s.ppu.oam sel (e := noSprites) (Nat.zero_le 8)
    have hzero := takeSprites_zero s.ppu.oam sel (e := noSprites) (Nat.zero_le 8)
    have hcell := read_takeSprites s.ppu.oam sel (e := noSprites) rfl
    simp only [noSprites, Nat.zero_add, Nat.zero_le, true_and, Nat.sub_zero, Bool.false_or] at hn hover hzero hcell
    simp only [t, ht, noSprites]
    refine ⟨hn, by rw [hover], hzero.trans (decide_eq_decide.2 (zero_mem_take_filter_range (by decide))),
      fun k j hk hj => by rw [hcell k hj, if_pos hk], fun c hc => ?_⟩
    have hslot := hcell (c / 4) (Nat.mod_lt c (by decide))
    rw [Nat.div_add_mod, if_neg (by omega)] at hslot
    exact hslot
  · rw [spritesForNextLine, if_pos hsl]
    rfl

end Sys2Proof.Machine
end

section
/-! PROOFS. The priority multiplexer (O51), and where sprite zero hits (O52). -/

namespace Sys2Proof.Machine

/-! ## The multiplexer (R657) -/

/-- The index of a sprite's colour: 16, its palette in bits 3 and 2, its pixel. -/
theorem spriteIndex_eq {sp : Nat} (hsp : sp < 4) (sa : Byte) :
    0x10 ||| ((sa.toNat &&& 3) <<< 2) ||| sp = 0x10 + 4 * (sa &&& 3).toNat + sp := by
  have hsa : sa.toNat &&& 3 < 4 := Nat.and_lt_two_pow (n := 2) _ (by decide)
  have hfields : ∀ k < 4, ∀ i < 4, 0x10 ||| (k <<< 2) ||| i = 0x10 + 4 * k + i := by decide
  exact hfields _ hsa sp hsp

/-- The index of a background colour: its palette in bits 3 and 2, its pixel. -/
theorem backgroundIndex_eq {bgpal bgpix : Nat} (hpal : bgpal < 4) (hpix : bgpix < 4) :
    (bgpal <<< 2) ||| bgpix = 4 * bgpal + bgpix := by
  have hfields : ∀ k < 4, ∀ i < 4, (k <<< 2) ||| i = 4 * k + i := by decide
  exact hfields bgpal hpal bgpix hpix

/-- Settles O51: the model's two tests, row by row. -/
theorem priorityMultiplexer : Obligations.PriorityMultiplexer := by
  intro bgpix bgpal sp sa hbg hpal hsp sprite background
  have hsprite : sprite = _ := spriteIndex_eq hsp sa
  have hbackground : background = _ := backgroundIndex_eq hpal hbg
  have hfront : sa.getLsbD 5 = false ↔ sa.toNat / 32 % 2 = 0 := by
    rw [getLsbD_eq_decide, decide_eq_false_iff_not]
    omega
  simp only [muxIndex, hfront, hsprite, hbackground]
  refine ⟨fun h0 h1 => ?_, fun h0 h1 => ?_, fun h0 h1 => ?_, fun _ h1 h2 => ?_, fun h0 _ h2 => ?_⟩
  · rw [if_neg (by omega), if_neg (by omega)]
  · rw [if_pos ⟨h1, .inl h0⟩]
  · rw [if_neg (by omega), if_pos h0]
  · rw [if_pos ⟨h1, .inr h2⟩]
  · rw [if_neg (by omega), if_pos h0]

/-! ## Opaque pixels (R636, R654) -/

/-- A pixel of two planes is opaque where one of them has a 1. -/
theorem twoPlanes_ne_zero (hi lo : Bool) : 2 * hi.toNat + lo.toNat ≠ 0 ↔ lo = true ∨ hi = true := by
  cases hi <;> cases lo <;> decide

/-- A layer is shown at column `px`: its bit of `mask`, and in the first eight columns its clipping bit. -/
def ShownAt (px : Nat) (shows left : Bool) : Prop := shows = true ∧ (px < 8 → left = true)

theorem shownAt_iff (px : Nat) (shows left : Bool) :
    ¬(!shows || (decide (px < 8) && !left)) = true ↔ ShownAt px shows left := by
  cases shows <;> cases left <;> simp [ShownAt]

theorem bgPixel_ne_zero (p : Ppu) (px : Nat) : p.bgPixel px ≠ 0 ↔ ShownAt px p.showBg p.bgLeft ∧
    (p.bgLo.getLsbD (15 - p.x.toNat) = true ∨ p.bgHi.getLsbD (15 - p.x.toNat) = true) := by
  rw [Ppu.bgPixel, ← shownAt_iff, ← twoPlanes_ne_zero]
  split
  · next hhidden => simp [hhidden]
  · next hshown => simp [hshown]

/-- The unit has an opaque pixel at column `px`: the column is one of its eight, and one of its planes has a 1 there. -/
def SpriteUnit.OpaqueAt (u : SpriteUnit) (px : Nat) : Prop :=
  u.x.toNat ≤ px ∧ px ≤ u.x.toNat + 7 ∧
    (u.lo.getLsbD (7 - (px - u.x.toNat)) = true ∨ u.hi.getLsbD (7 - (px - u.x.toNat)) = true)

theorem spritePixel_ne_zero (p : Ppu) (px : Nat) (u : SpriteUnit) :
    p.spritePixel px u ≠ 0 ↔ ShownAt px p.showSpr p.sprLeft ∧ u.OpaqueAt px := by
  rw [Ppu.spritePixel, SpriteUnit.OpaqueAt, ← shownAt_iff, ← twoPlanes_ne_zero, ← Nat.sub_le_iff_le_add']
  split
  · next hhidden => simp [hhidden]
  · next hshown =>
    split
    · next hin => simp [hshown, hin.1, hin.2]
    · next hout => exact ⟨absurd rfl, fun ⟨_, hleft, hright, _⟩ => absurd ⟨hleft, hright⟩ hout⟩

/-! ## The hit (R655) -/

/-- The first unit that holds a sprite has an opaque pixel. -/
theorem firstUnit_ne_zero (p : Ppu) (f : SpriteUnit → Nat) : (p.activeUnits.head?.map f).getD 0 ≠ 0 ↔
    0 < p.sprCount ∧ ∃ u, p.sprites.head? = some u ∧ f u ≠ 0 := by
  rw [Ppu.activeUnits, List.head?_take]
  split
  · next h => simp [h]
  · next h => cases p.sprites.head? <;> simp [Nat.pos_of_ne_zero h]

/-- R655, layer by layer. -/
theorem zeroHit_iff (p : Ppu) (px : Nat) : p.zeroHit px = true ↔
    p.sprZeroOnLine = true ∧ px ≠ 255 ∧ ShownAt px p.showBg p.bgLeft ∧
      (p.bgLo.getLsbD (15 - p.x.toNat) = true ∨ p.bgHi.getLsbD (15 - p.x.toNat) = true) ∧
      ShownAt px p.showSpr p.sprLeft ∧ 0 < p.sprCount ∧ ∃ u, p.sprites.head? = some u ∧ u.OpaqueAt px := by
  simp only [Ppu.zeroHit, Bool.and_eq_true, decide_eq_true_eq, firstUnit_ne_zero, bgPixel_ne_zero, spritePixel_ne_zero]
  constructor
  · rintro ⟨⟨⟨hline, hcount, u, hu, hspr, hopaque⟩, hbg, hplanes⟩, hpx⟩
    exact ⟨hline, hpx, hbg, hplanes, hspr, hcount, u, hu, hopaque⟩
  · rintro ⟨hline, hpx, hbg, hplanes, hspr, hcount, u, hu, hopaque⟩
    exact ⟨⟨⟨hline, hcount, u, hu, hspr, hopaque⟩, hbg, hplanes⟩, hpx⟩

/-! ## The backdrop (R658) -/

theorem emph_append_eq (p : Ppu) (c : BitVec 6) :
    p.emph ++ c = BitVec.ofNat 9 (p.mask.toNat / 32 * 64 + c.toNat) := by
  have hemph : p.emph.toNat = p.mask.toNat / 32 := by
    rw [Ppu.emph, BitVec.extractLsb'_toNat, Nat.shiftRight_eq_div_pow]
    omega
  apply BitVec.eq_of_toNat_eq
  rw [BitVec.toNat_append, ← Nat.shiftLeft_add_eq_or_of_lt c.isLt, Nat.shiftLeft_eq, hemph, BitVec.toNat_ofNat]
  omega

section
variable {p : Ppu} (h : p.rendering = false)
include h

theorem layers_of_not_rendering : p.showBg = false ∧ p.showSpr = false := Bool.or_eq_false_iff.1 h

theorem zeroHit_of_not_rendering (px : Nat) : p.zeroHit px = false := by
  refine Bool.eq_false_iff.2 fun hit => ?_
  obtain ⟨-, -, ⟨hbg, -⟩, -⟩ := (zeroHit_iff p px).1 hit
  exact absurd hbg (by simp [layers_of_not_rendering h])

/-- No layer has an opaque pixel, so the multiplexer gives the backdrop. -/
theorem pixelIndex_of_not_rendering (order : SpriteOverlapOrder) (px : Nat) : p.pixelIndex order px = 0 := by
  obtain ⟨hbg, hspr⟩ := layers_of_not_rendering h
  have hpix : p.bgPixel px = 0 := by simp [Ppu.bgPixel, hbg]
  have hnone : p.winner order px = none := by
    cases order <;> simp [Ppu.winner, Ppu.spritePixel, hspr, leftmost]
  simp [Ppu.pixelIndex, hnone, muxIndex, hpix]

end

theorem pixel_sprite0Hit (order : SpriteOverlapOrder) (sl px : Nat) (p : Ppu) :
    (p.pixel order sl px).sprite0Hit = (p.sprite0Hit || p.zeroHit px) := rfl

/-- Settles O52: the flag by `zeroHit_iff`, whose bits are those of the statement; the pixel by the backdrop's index. -/
theorem spriteZeroHitConditions : Obligations.SpriteZeroHitConditions := by
  intro order sl px p
  refine ⟨?_, fun hoff hr => ⟨?_, ?_⟩⟩
  · intro bit shown
    rw [pixel_sprite0Hit, Bool.or_eq_true, zeroHit_iff]
    simp only [ShownAt, SpriteUnit.OpaqueAt, Ppu.showBg, Ppu.bgLeft, Ppu.showSpr, Ppu.sprLeft, getLsbD_eq_decide,
      decide_eq_true_eq, bit, shown]
  · rw [pixel_sprite0Hit, zeroHit_of_not_rendering hoff, Bool.or_false]
  · rw [Ppu.pixel, Cells.read_write_same _ hr, Ppu.colour, pixelIndex_of_not_rendering hoff, emph_append_eq, Ppu.grey,
      bit0_eq]
    simp only [decide_eq_true_eq]
    rfl

end Sys2Proof.Machine
end

section
/-! PROOFS. The step with the fixed mapping (O24), and returning from an interrupt entry (O14). -/

namespace Sys2Proof.Machine

/-- Settles O24: the fetch is sound, the instruction keeps that, and then no later phase stops the step. -/
theorem stepPhasesInOrder : Obligations.StepPhasesInOrder := by
  intro s i hcart hfault f hd hi
  have hfetch : fetch (clearOutputs s) = (i, f.2) := fetch_of_readBytes (s := clearOutputs s) hd hi
  have hsound : Sound (fetch (clearOutputs s)).2 := sound_closed.fetch (s := clearOutputs s) ⟨hcart, hfault⟩
  rw [hfetch] at hsound
  obtain ⟨t, hexec, ht⟩ := sound_closed.exec i (fun op e => absurd e (hi op)) hsound
  have hstep : step s = finishStep t :=
    step_of_exec hfault (by rw [hfetch]; exact hsound.2) (by rw [hfetch]; exact hexec)
  exact ⟨t, hexec, hstep.trans (finishStep_of_sound ht), (sound_arbiter (sound_apuCatchUp (sound_ppuCatchUp ht))).2⟩

/-! ## An interrupt entry and the return from it (R814, R818) -/

/-- The bytes an interrupt entry pushed, in the order pulls read them. -/
theorem pulledByte_enterInterrupt {s : State} (hr : s.ram.rising = true) (ret : Addr) (brk setI : Bool) (vec : Addr)
    {k : Nat} (hk : k < 3) :
    some (pulledByte (enterInterrupt ret brk setI vec s) k) = [hi ret, lo ret, s.p.pack brk][2 - k]? := by
  rw [enterInterrupt_eq]
  apply pulledByte_pushedRam (bs := [hi ret, lo ret, s.p.pack brk]) (by simp) hr hk <;> simp [read16]

/-- The registers after RTI: S three further, the flags and PC pulled (R496). -/
theorem rti_cpu (s : State) : ∃ t, exec .rti s = .next t ∧ t.cpu =
    { s.cpu with
      sp := s.sp + 3
      p := Flags.unpack (pulledByte s 0)
      pc := word (pulledByte s 2) (pulledByte s 1) } := by
  refine ⟨_, rfl, ?_⟩
  rw [returnFromInterrupt_eq]
  rfl

/-- Settles O14: the three pulls give back the three bytes pushed, and each pair of pack and unpack, split and join is the
identity. -/
theorem interruptThenReturnResumes : Obligations.InterruptThenReturnResumes := by
  intro s ret vector brk setI hr
  obtain ⟨t, ht, hcpu⟩ := rti_cpu (enterInterrupt ret brk setI vector s)
  have hbyte {k : Nat} (hk : k < 3) := pulledByte_enterInterrupt hr ret brk setI vector hk
  have hflags : pulledByte (enterInterrupt ret brk setI vector s) 0 = s.p.pack brk := Option.some.inj (hbyte (by decide))
  have hlo : pulledByte (enterInterrupt ret brk setI vector s) 1 = lo ret := Option.some.inj (hbyte (by decide))
  have hhi : pulledByte (enterInterrupt ret brk setI vector s) 2 = hi ret := Option.some.inj (hbyte (by decide))
  refine ⟨t, ht, ?_⟩
  rw [hcpu, hflags, hlo, hhi, unpack_pack, word_hi_lo, enterInterrupt_eq]
  simp [State.cpu, read16]

end Sys2Proof.Machine
end

section
/-! PROOFS. The generators of the audio unit: an envelope (O57), the output clock of the sample channel (O59), the sweep of
a pulse channel (O58). -/

namespace Sys2Proof.Machine

/-! ## Envelopes (R716) -/

/-- A counter above 0 falls by 1 and does not wrap. -/
theorem sub_one_eq_ofNat_pred {w : Nat} {x : BitVec w} (h : x ≠ 0) : x - 1 = BitVec.ofNat w (x.toNat - 1) := by
  have hpos : x.toNat ≠ 0 := fun e => h (BitVec.eq_of_toNat_eq (by simpa using e))
  have hsucc : x = BitVec.ofNat w (x.toNat - 1) + 1 := by
    have hadd := BitVec.ofNat_add (n := w) (x.toNat - 1) 1
    rwa [Nat.sub_add_cancel (Nat.pos_of_ne_zero hpos), BitVec.ofNat_toNat, BitVec.setWidth_eq] at hadd
  exact sub_eq_of_eq_add hsucc

/-- Settles O57: the branches of the clock. -/
theorem envelopeClocking : Obligations.EnvelopeClocking := by
  intro e
  refine ⟨fun hs => ?start, fun hs hd hdecay => ?falls, fun hs hd hdecay hl => ?loops, fun hs hd hdecay hl => ?stays,
    fun hs hd => ?divides, rfl⟩
  case start => rw [Envelope.clock, hs]; rfl
  case falls =>
    have hne : e.decay ≠ 0 := fun h => by simp [h] at hdecay
    rw [Envelope.clock, hs, if_neg Bool.false_ne_true, if_pos hd, if_neg hne, sub_one_eq_ofNat_pred hne]
  case loops => simp [Envelope.clock, hs, hd, hdecay, hl]
  case stays => simp [Envelope.clock, hs, hd, hdecay, hl]
  case divides => simp only [Envelope.clock, hs, if_neg hd, sub_one_eq_ofNat_pred hd, Bool.false_eq_true, if_false]

/-! ## The sample channel (R745) -/

/-- The level after an output clock (R745): 2 up or down by the bit shifted out, where that stays from 0 to 127. -/
theorem sampleLevel_eq (silence up : Bool) (level : BitVec 7) :
    (if silence then level
      else if up then (if level.toNat ≤ 125 then level + 2 else level)
      else if 2 ≤ level.toNat then level - 2 else level) =
    let moved : Int := if up then level.toNat + 2 else (level.toNat : Int) - 2
    if silence = true ∨ moved < 0 ∨ 127 < moved then level else BitVec.ofInt 7 moved := by
  revert silence up level; decide

/-- Settles O59: the clock is the common part with the reload at the last bit. -/
theorem sampleLevelStaysInRange : Obligations.SampleLevelStaysInRange := by
  intro d moved level rest
  have hlevel := sampleLevel_eq d.silence (d.shift.getLsbD 0) d.level
  have hshift : d.shift >>> 1 = BitVec.ofNat 8 (d.shift.toNat / 2) := lsrResult_eq d.shift
  have hclock : d.outputClock =
      if d.bitsLeft = 1 then
        if d.bufferFull then { rest with bitsLeft := 8, silence := false, shift := d.buffer, bufferFull := false }
        else { rest with bitsLeft := 8, silence := true }
      else rest := by
    simp only [bit0_eq, decide_eq_true_eq] at hlevel
    simp only [Dmc.outputClock, sub_eq_zero, hshift, bit0_eq, decide_eq_true_eq, hlevel]
    rfl
  refine ⟨fun h => ?_, fun h hb => ?_, fun h hb => ?_⟩
  · rw [hclock, if_neg h]
  · rw [hclock, if_pos h, if_pos hb]
  · rw [hclock, if_pos h, hb]
    rfl

/-! ## The sweep unit (R717) -/

/-- The target on integers: a difference below 0 is 0. -/
theorem sweepTarget_eq (first : Bool) (p : Pulse) :
    let period := p.timerPeriod.toNat
    let change := period / 2 ^ p.sweepShift.toNat
    (p.sweepTarget first : Int) =
      if p.sweepNeg then max 0 ((period : Int) - change - (if first then 1 else 0)) else period + change := by
  intro period change
  simp only [Pulse.sweepTarget, ← show change = p.timerPeriod.toNat / 2 ^ p.sweepShift.toNat from rfl]
  clear_value change
  cases p.sweepNeg with
  | false => rfl
  | true => cases first <;> simp only [period, if_true, Bool.false_eq_true, if_false] <;> omega

theorem sweepMute_iff (first : Bool) (p : Pulse) :
    p.sweepMute first = true ↔ p.timerPeriod.toNat < 8 ∨ 0x7FF < p.sweepTarget first := by
  simp only [Pulse.sweepMute, Bool.or_eq_true, decide_eq_true_eq]

/-- A muted channel outputs 0 (R717, R719). -/
theorem Pulse.out_of_sweepMute {first : Bool} {p : Pulse} (h : p.sweepMute first = true) : p.out first = 0 := by
  simp only [Pulse.out, h, Bool.or_true, if_true]

/-- A clock of the sweep unit retunes the channel and moves the divider, each under its own condition. -/
theorem sweepClock_eq (first : Bool) (p : Pulse) : p.sweepClock first = { p with
    timerPeriod :=
      if p.sweepDiv = 0 ∧ p.sweepEn = true ∧ p.sweepShift ≠ 0 ∧ ¬p.sweepMute first = true then
        BitVec.ofNat 11 (p.sweepTarget first)
      else p.timerPeriod
    sweepDiv := if p.sweepDiv = 0 ∨ p.sweepReload = true then p.sweepPeriod else p.sweepDiv - 1
    sweepReload := false } := by
  simp only [Pulse.sweepClock, Bool.or_eq_true, Bool.and_eq_true, decide_eq_true_eq, Bool.not_eq_true', and_assoc,
    Bool.not_eq_true]
  by_cases hdiv : p.sweepDiv = 0 ∨ p.sweepReload = true
  · simp only [if_pos hdiv]
    split <;> rfl
  · have hkeep : p.sweepReload = false := by simpa using (not_or.1 hdiv).2
    simp only [if_neg hdiv]
    split <;> simp only [hkeep]

/-- Settles O58: the parts of the sweep unit, with the target on integers; a target that is not muted fits the period. -/
theorem sweepRetunesOnlyInRange : Obligations.SweepRetunesOnlyInRange := by
  intro first p period change target mute
  have htarget : (p.sweepTarget first : Int) = target := sweepTarget_eq first p
  have hmute : p.sweepMute first = true ↔ mute := by
    rw [sweepMute_iff]
    omega
  refine ⟨fun hm => Pulse.out_of_sweepMute (hmute.2 hm), ?_, ?_⟩
  · rw [sweepClock_eq]
  · simp only [sweepClock_eq, hmute]
    split
    · next h =>
      obtain ⟨-, -, -, hnot⟩ := h
      rw [← htarget, BitVec.toNat_ofNat, Nat.mod_eq_of_lt (by omega)]
    · rfl

end Sys2Proof.Machine
end

section
/-! PROOFS. The registers of the audio unit: the status read (O53), the enable write (O54), the channels' registers (O55). -/

namespace Sys2Proof.Machine

open Sys2Proof.Claims

/-! ## The status byte (R706) -/

/-- A bit of the byte as a number. -/
theorem decide_ne_zero_eq {w : Nat} (x : BitVec w) : decide (x ≠ 0) = decide (0 < x.toNat) := by
  rw [decide_eq_decide, Nat.pos_iff_ne_zero, Ne, Ne, ← BitVec.toNat_inj]
  rfl

theorem Apu.statusByte_eq (u : Apu) (db : Byte) : u.statusByte db = BitVec.ofNat 8
    (128 * num u.dmcIrq + 64 * num u.frameIrq + db.toNat / 32 % 2 * 32 +
      16 * num (decide (0 < u.dmc.bytesLeft.toNat)) + 8 * num (decide (0 < u.noise.length.toNat)) +
      4 * num (decide (0 < u.triangle.length.toNat)) + 2 * num (decide (0 < u.pulse2.length.toNat)) +
      num (decide (0 < u.pulse1.length.toNat))) := by
  have hdb : db &&& 0x20 = bitAt (db.getLsbD 5) 5 ∧ db.toNat / 32 % 2 = num (db.getLsbD 5) := by revert db; decide
  rw [Apu.statusByte, hdb.1, hdb.2]
  simp only [decide_ne_zero_eq]
  generalize u.dmcIrq = i, u.frameIrq = f, db.getLsbD 5 = o, decide (0 < u.dmc.bytesLeft.toNat) = d,
    decide (0 < u.noise.length.toNat) = n, decide (0 < u.triangle.length.toNat) = t,
    decide (0 < u.pulse2.length.toNat) = p2, decide (0 < u.pulse1.length.toNat) = p1
  revert i f o d n t p2 p1
  decide

/-- Settles O53: the byte on numbers. -/
theorem apuStatusRead : Obligations.ApuStatusRead := by
  intro s r
  have hr : s.apu.statusByte s.db = r := Apu.statusByte_eq s.apu s.db
  rw [← hr]
  rfl

/-! ## The enable register (R705) -/

theorem Dmc.enable_eq (d : Dmc) (on : Bool) : d.enable on =
    if on = false then { d with bytesLeft := 0 }
    else if d.bytesLeft = 0 then { d with
      curAddr := BitVec.ofNat 16 (0xC000 + 64 * d.sampleAddr.toNat)
      bytesLeft := BitVec.ofNat 12 (16 * d.sampleLen.toNat + 1) }
    else d := by
  cases on <;> rfl

/-- Settles O54: the channels' enables, with the bits of the byte on numbers. -/
theorem apuEnableWrite : Obligations.ApuEnableWrite := by
  intro s b on
  have hwrite : write8 0x4015 b s = { s with db := b, apu := s.apu.writeEnable b } := rfl
  simp only [hwrite, Apu.writeEnable, Dmc.enable_eq, getLsbD_eq_decide]
  rfl

/-! ## Fields of the channel registers, on numbers -/

/-- The low byte of a timer's period (R713, R720). -/
theorem timerLow_eq (period : BitVec 11) (b : Byte) :
    (period &&& 0x700) ||| b.setWidth 11 = BitVec.ofNat 11 (period.toNat / 256 * 256 + b.toNat) :=
  setLowField_eq (m := 8) (by decide) (by revert b; decide) b.isLt

/-- The three bits above it (R714, R720). -/
theorem timerHigh_eq (period : BitVec 11) (b : Byte) :
    (period &&& 0x0FF) ||| ((b &&& 7).setWidth 11 <<< 8) =
      BitVec.ofNat 11 (b.toNat % 8 * 256 + period.toNat % 256) := by
  have hb : ((b &&& 7).setWidth 11).toNat = b.toNat % 8 := by revert b; decide
  have h := setField_eq (k := 8) (m := 3) (x := period) (mask := 0x0FF) (by decide) hb (by omega)
  rwa [Nat.div_eq_of_lt period.isLt, Nat.zero_mul, Nat.zero_add] at h

/-- The low seven bits (R720, R742). -/
theorem setWidth_seven_eq (b : Byte) : b.setWidth 7 = BitVec.ofNat 7 (b.toNat % 128) := by revert b; decide

theorem Envelope.write_eq (e : Envelope) (b : Byte) : e.write b = { e with
    halt := decide (b.toNat / 2 ^ 5 % 2 = 1)
    constVol := decide (b.toNat / 2 ^ 4 % 2 = 1)
    vol := BitVec.ofNat 4 b.toNat } := by
  simp only [Envelope.write, getLsbD_eq_decide, BitVec.ofNat_toNat]

theorem Pulse.write0_eq (p : Pulse) (b : Byte) : p.write0 b = { p with
    duty := BitVec.ofNat 2 (b.toNat / 64)
    env := p.env.write b } := by
  have hduty : b.extractLsb' 6 2 = BitVec.ofNat 2 (b.toNat / 64) := by revert b; decide
  rw [Pulse.write0, hduty]

theorem Pulse.write1_eq (p : Pulse) (b : Byte) : p.write1 b = { p with
    sweepEn := decide (b.toNat / 2 ^ 7 % 2 = 1)
    sweepPeriod := BitVec.ofNat 3 (b.toNat / 16)
    sweepNeg := decide (b.toNat / 2 ^ 3 % 2 = 1)
    sweepShift := BitVec.ofNat 3 b.toNat
    sweepReload := true } := by
  have hperiod : b.extractLsb' 4 3 = BitVec.ofNat 3 (b.toNat / 16) := by revert b; decide
  simp only [Pulse.write1, getLsbD_eq_decide, hperiod, BitVec.ofNat_toNat]

theorem Triangle.write0_eq (t : Triangle) (b : Byte) : t.write0 b = { t with
    control := decide (b.toNat / 2 ^ 7 % 2 = 1)
    linearReloadVal := BitVec.ofNat 7 (b.toNat % 128) } := by
  rw [Triangle.write0, getLsbD_eq_decide, setWidth_seven_eq]

theorem Noise.write2_eq (n : Noise) (b : Byte) : n.write2 b = { n with
    mode := decide (b.toNat / 2 ^ 7 % 2 = 1)
    periodIdx := BitVec.ofNat 4 b.toNat } := by
  rw [Noise.write2, getLsbD_eq_decide, BitVec.ofNat_toNat]

theorem Dmc.write0_eq (d : Dmc) (b : Byte) : d.write0 b = { d with
    irqEn := decide (b.toNat / 2 ^ 7 % 2 = 1)
    loop := decide (b.toNat / 2 ^ 6 % 2 = 1)
    rateIdx := BitVec.ofNat 4 b.toNat } := by
  simp only [Dmc.write0, getLsbD_eq_decide, BitVec.ofNat_toNat]

/-! ## The channel registers (R703, R711 to R714, R720, R730, R741 to R743) -/

/-- A write of a register changes the audio unit as the register says, and `db`. -/
theorem write8_apuRegister {a : Addr} {n : Nat} {u : Apu} (b : Byte) (s : State) (ha : route a = .apuRegister n)
    (hu : s.apu.writeRegister n b = u) : write8 a b s = { s with db := b, apu := u } := by
  subst hu
  simp only [write8, ha]
  rfl

/-- Settles O55: each register by its equation. -/
theorem channelRegisterWrites : Obligations.ChannelRegisterWrites := by
  refine ⟨fun s b => ?pulses, fun s b => ?others⟩
  case pulses =>
    refine ⟨write8_apuRegister (n := 0x00) b s rfl ?_, write8_apuRegister (n := 0x01) b s rfl ?_,
      write8_apuRegister (n := 0x02) b s rfl ?_, write8_apuRegister (n := 0x03) b s rfl ?_,
      write8_apuRegister (n := 0x04) b s rfl ?_, write8_apuRegister (n := 0x05) b s rfl ?_,
      write8_apuRegister (n := 0x06) b s rfl ?_, write8_apuRegister (n := 0x07) b s rfl ?_⟩ <;>
    simp only [Apu.writeRegister, Pulse.write0_eq, Envelope.write_eq, Pulse.write1_eq, Pulse.write2, timerLow_eq,
      Pulse.write3, timerHigh_eq, lengthOf]
  case others =>
    refine ⟨write8_apuRegister (n := 0x08) b s rfl ?_, write8_apuRegister (n := 0x09) b s rfl rfl,
      write8_apuRegister (n := 0x0A) b s rfl ?_, write8_apuRegister (n := 0x0B) b s rfl ?_,
      write8_apuRegister (n := 0x0C) b s rfl ?_, write8_apuRegister (n := 0x0D) b s rfl rfl,
      write8_apuRegister (n := 0x0E) b s rfl ?_, write8_apuRegister (n := 0x0F) b s rfl rfl,
      write8_apuRegister (n := 0x10) b s rfl ?_, write8_apuRegister (n := 0x11) b s rfl ?_,
      write8_apuRegister (n := 0x12) b s rfl rfl, write8_apuRegister (n := 0x13) b s rfl rfl⟩ <;>
    simp only [Apu.writeRegister, Triangle.write0_eq, Triangle.write2, timerLow_eq, Triangle.write3, timerHigh_eq,
      lengthOf, Noise.write0, Envelope.write_eq, Noise.write2_eq, Dmc.write0_eq, getLsbD_eq_decide, setWidth_seven_eq]

end Sys2Proof.Machine
end

section
/-! PROOFS. The frame sequencer and the write that starts it again (O56), and the sample reader's fetch (O60). -/

namespace Sys2Proof.Machine

open Sys2Proof.Claims

/-! ## The frame sequencer (R750 to R752) -/

/-- The cycles of one round of the sequencer, by its mode (R750). -/
def Apu.period (u : Apu) : Nat := if u.fsMode then 37282 else 29830

/-- One cycle of the sequencer: it counts, ends its round at the period of its mode, and raises the frame interrupt at cycle
29829 of the four-step mode (R751). Clocking the channels touches none of it. -/
theorem sequencerStep_fields (u : Apu) :
    u.sequencerStep.fsCycle = (if u.fsCycle + 1 = u.period then 0 else u.fsCycle + 1) ∧
    u.sequencerStep.frameIrq = (u.frameIrq || (!u.fsMode && decide (u.fsCycle + 1 = 29829) && !u.fsIrqInhibit)) ∧
    u.sequencerStep.fsMode = u.fsMode ∧ u.sequencerStep.fsIrqInhibit = u.fsIrqInhibit := by
  unfold Apu.sequencerStep Apu.period
  generalize u.fsCycle + 1 = n
  -- By the mode, then by the branches of the step: no two of the cycles they name are equal.
  cases hm : u.fsMode <;> simp only [Bool.false_eq_true, if_true, if_false] <;> repeat' split
  all_goals simp_all [Apu.quarter, Apu.half]

theorem sequencerSteps_succ (n : Nat) (u : Apu) : sequencerSteps (n + 1) u = (sequencerSteps n u).sequencerStep := by
  induction n generalizing u with
  | zero => rfl
  | succ n ih => exact ih u.sequencerStep

/-- A round of the sequencer from its start, by induction on the cycles. -/
theorem sequencerSteps_fields {u : Apu} (hu : u.fsCycle = 0) {k : Nat} (hk : k ≤ u.period) :
    (sequencerSteps k u).fsCycle = k % u.period ∧
    (sequencerSteps k u).frameIrq = (u.frameIrq || (!u.fsMode && decide (29829 ≤ k) && !u.fsIrqInhibit)) ∧
    (sequencerSteps k u).fsMode = u.fsMode ∧ (sequencerSteps k u).fsIrqInhibit = u.fsIrqInhibit := by
  induction k with
  | zero => simp [sequencerSteps, hu]
  | succ k ih =>
    obtain ⟨hcycle, hirq, hmode, hinhibit⟩ := ih (by omega)
    obtain ⟨hcycle', hirq', hmode', hinhibit'⟩ := sequencerStep_fields (sequencerSteps k u)
    have hperiod : (sequencerSteps k u).period = u.period := by rw [Apu.period, hmode]; rfl
    rw [Nat.mod_eq_of_lt hk] at hcycle
    rw [sequencerSteps_succ]
    refine ⟨?_, ?_, hmode'.trans hmode, hinhibit'.trans hinhibit⟩
    · rw [hcycle', hcycle, hperiod]
      split
      · next h => rw [h, Nat.mod_self]
      · next h => rw [Nat.mod_eq_of_lt (by omega)]
    · have hreach : decide (29829 ≤ k + 1) = (decide (29829 ≤ k) || decide (k + 1 = 29829)) := by
        rw [← Bool.decide_or, decide_eq_decide]
        omega
      rw [hirq', hirq, hmode, hinhibit, hcycle, hreach, Bool.or_assoc, ← Bool.and_or_distrib_right,
        ← Bool.and_or_distrib_left]

/-! ## The write of 0x4017 (R752, R754) -/

theorem Envelope.clock_halt (e : Envelope) : e.clock.halt = e.halt := by
  unfold Envelope.clock
  repeat' split
  all_goals rfl

theorem lengthClock_eq (halt : Bool) (length : Byte) :
    Machine.lengthClock halt length = if halt = false ∧ length ≠ 0 then length - 1 else length := by
  simp only [Machine.lengthClock, Bool.and_eq_true, Bool.not_eq_true', decide_eq_true_eq]

theorem Triangle.linearClock_eq (t : Triangle) : t.linearClock = { t with
    linear := if t.linearReload = true then t.linearReloadVal else BitVec.ofNat 7 (t.linear.toNat - 1)
    linearReload := t.linearReload && t.control } := by
  have hfall : (if t.linear = 0 then 0 else t.linear - 1) = BitVec.ofNat 7 (t.linear.toNat - 1) := by
    split
    · next h => rw [h]; rfl
    · next h => exact sub_one_eq_ofNat_pred h
  rw [Triangle.linearClock, hfall]

/-- A quarter frame and a half frame in one cycle: each channel's units in turn. -/
theorem Apu.quarter_half (u : Apu) : u.quarter.half = { u with
    pulse1 := ({ u.pulse1 with env := u.pulse1.env.clock } : Pulse).lengthClock.sweepClock true
    pulse2 := ({ u.pulse2 with env := u.pulse2.env.clock } : Pulse).lengthClock.sweepClock false
    triangle := u.triangle.linearClock.lengthClock
    noise := ({ u.noise with env := u.noise.env.clock } : Noise).lengthClock } := rfl

/-- Settles O56: the round of the sequencer by its induction; the write sets the mode and, with bit 7, clocks every unit. -/
theorem frameSequencerPeriods : Obligations.FrameSequencerPeriods := by
  refine ⟨?round, ?write⟩
  case round =>
    intro u hu period k hk
    obtain ⟨hcycle, hirq, hmode, -⟩ := sequencerSteps_fields hu hk
    exact ⟨hcycle, hirq, hmode⟩
  case write =>
    intro s b bit u counted pulse
    have hwrite : write8 0x4017 b s = { s with db := b, apu := s.apu.writeSequencer b } := rfl
    have hu : s.apu.writeSequencer b = if bit 7 = true then u.quarter.half else u := by
      simp only [Apu.writeSequencer, getLsbD_eq_decide]
      rfl
    rw [hwrite, hu]
    cases bit 7 with
    | false => rfl
    | true =>
      simp only [Apu.quarter_half, Pulse.lengthClock, Noise.lengthClock, Triangle.lengthClock, Triangle.linearClock_eq,
        lengthClock_eq, Envelope.clock_halt]
      rfl

/-! ## The sample reader (R748) -/

theorem Dmc.take_eq (d : Dmc) (b : Byte) : d.take b = { d with
    buffer := b
    bufferFull := true
    curAddr :=
      if d.bytesLeft = 1 ∧ d.loop = true then BitVec.ofNat 16 (0xC000 + 64 * d.sampleAddr.toNat)
      else if d.curAddr.toNat = 0xFFFF then 0x8000
      else BitVec.ofNat 16 (d.curAddr.toNat + 1)
    bytesLeft :=
      if d.bytesLeft = 1 ∧ d.loop = true then BitVec.ofNat 12 (16 * d.sampleLen.toNat + 1) else d.bytesLeft - 1 } := by
  have hnext : (if d.curAddr = 0xFFFF then 0x8000 else d.curAddr + 1) =
      if d.curAddr.toNat = 0xFFFF then 0x8000 else BitVec.ofNat 16 (d.curAddr.toNat + 1) := by
    have hend : d.curAddr = 0xFFFF ↔ d.curAddr.toNat = 0xFFFF := BitVec.toNat_inj.symm
    rw [BitVec.ofNat_add, BitVec.ofNat_toNat, BitVec.setWidth_eq]
    simp only [hend]
    rfl
  simp only [Dmc.take, hnext, sub_eq_zero, Bool.and_eq_true, decide_eq_true_eq]
  split <;> rfl

theorem Dmc.endsWithIrq_eq (d : Dmc) :
    d.endsWithIrq = decide (d.bytesLeft = 1 ∧ d.loop = false ∧ d.irqEn = true) := by
  simp only [Dmc.endsWithIrq, sub_eq_zero]
  simp [Bool.and_assoc]

/-- Settles O60: the read gives memory's byte, and the channel takes it. -/
theorem sampleFetchReadsTheBus : Obligations.SampleFetchReadsTheBus := by
  intro s b _ hmem d last
  simp only [dmcFetch, read8_of_memByte hmem, State.setDb_apu, Dmc.take_eq, Dmc.endsWithIrq_eq]
  rfl

end Sys2Proof.Machine
end
